-- ==== Sys2Proof/Word.lean ====
section
/-! DEFINITION. The word types of the command port and the registers. -/

namespace Sys2Proof

/-- A 32-bit value: `cmd_arg` and `rsp_data` (10_state.md R36, R35), and the container of every counter and period
register, whose own width is a parameter of at most 32 bits (00_scope.md R5; log entry 6). -/
abbrev Word := BitVec 32

/-- A packed command word `CW = {op, arg}`: `CW[35:32] = op`, `CW[31:0] = arg` (30_encoding.md R80). -/
abbrev CommandWord := BitVec 36

end Sys2Proof
end

