-- ==== Sys2Proof/Config.lean ====
section
/-! DEFINITION. The implementation parameters of 00_scope.md R5. The spec fixes none of their values ("a model must take
STEP_W as an argument, never assume 32", D1), so they are data that every definition takes as an argument: a machine
carries its own in State.params (log entry 1). -/

namespace Sys2Proof

/-- The parameters of 00_scope.md R5. They are fixed when the block is built (20_memory.md R61). -/
structure Params where
  /-- `STEP_W`: width of `target` and `current`. -/
  stepW : Nat
  /-- `TICK_W`: width of `tick_count`. -/
  tickW : Nat
  /-- `PERIOD_W`: width of `cmd_period`, `eff_period` and the `cmp_period` output. -/
  periodW : Nat
  /-- `INIT_PERIOD`: the period loaded at reset into both period registers. -/
  initPeriod : Word
  /-- `PHASE_HALF[0..7]`. -/
  phaseHalf : Vector (BitVec 4) 8
  /-- `PHASE_FULL[0..3]`. -/
  phaseFull : Vector (BitVec 4) 4
  deriving DecidableEq, Repr

namespace Params

/-- The default half-step table of 20_memory.md R62. PRESUMED: the spec marks it "from general knowledge, not in
source", so a claim that uses it errs toward proving if the real table differs (unsafe, log entry 10). -/
def defaultPhaseHalf : Vector (BitVec 4) 8 :=
  #v[0b0001#4, 0b0011#4, 0b0010#4, 0b0110#4, 0b0100#4, 0b1100#4, 0b1000#4, 0b1001#4]

/-- The default full-step table of 20_memory.md R62. PRESUMED, as `defaultPhaseHalf` (unsafe, log entry 10). -/
def defaultPhaseFull : Vector (BitVec 4) 4 :=
  #v[0b0011#4, 0b0110#4, 0b1100#4, 0b1001#4]

/-- The default values of 00_scope.md R5. DESIGN CHOICE: `INIT_PERIOD` is OPEN there (D4), and 1000 is this model's
number for it (unsafe, log entry 2). -/
def defaults : Params where
  stepW := 32
  tickW := 32
  periodW := 32
  initPeriod := 1000#32
  phaseHalf := defaultPhaseHalf
  phaseFull := defaultPhaseFull

/-- How many coils a pattern energizes (20_memory.md R65: a 1 energizes the coil). -/
def coilsOn (pattern : BitVec 4) : Nat :=
  (pattern.getLsbD 0).toNat + (pattern.getLsbD 1).toNat + (pattern.getLsbD 2).toNat + (pattern.getLsbD 3).toNat

/-- Cyclically adjacent entries of the table differ (20_memory.md R63 (d), the spec's own reading, D5). -/
abbrev CyclicallyAdjacentDiffer {n : Nat} (table : Vector (BitVec 4) n) : Prop :=
  ∀ i : Fin n, table[i.val]? ≠ table[(i.val + 1) % n]?

/-- The legal ranges of 00_scope.md R5 and the checkable table constraints of 20_memory.md R63: (a) is the entries'
type, (b) and (d) are stated, (c) is "not stated precisely enough to check". -/
abbrev Legal (p : Params) : Prop :=
  (8 ≤ p.stepW ∧ p.stepW ≤ 32) ∧ (8 ≤ p.tickW ∧ p.tickW ≤ 32) ∧ (2 ≤ p.periodW ∧ p.periodW ≤ 32) ∧
  (p.initPeriod ≠ 0 ∧ p.initPeriod.toNat < 2 ^ p.periodW) ∧
  (∀ pattern ∈ p.phaseFull.toList, coilsOn pattern = 2) ∧
  CyclicallyAdjacentDiffer p.phaseHalf ∧ CyclicallyAdjacentDiffer p.phaseFull

end Params

end Sys2Proof
end

