-- ==== Sys2Proof/Syntax.lean ====
section
/-! DEFINITION. The commands and the tick event: one constructor per row of spec/opcode_table.json. -/

namespace Sys2Proof

/-- The operations that change the block's state, one constructor per row of the opcode table.

A constructor carries the operand bits its format assigns (30_encoding.md R81): format `C` its count, format `P` its
period, format `B` the WHOLE argument, because a `SET_DIR` or `SET_MODE` whose reserved bits are not 0 is still that
opcode's command (R84: "`cmd_op` alone selects the command") and answers ERR_ARG (R83; log entry 8). Format `N` and the
reserved opcodes carry nothing: "any value of `arg` gives the same result" (R82, R85; log entry 12). -/
inductive Instr where
  /-- `NOP`, op 0x0, format N (41_motion_commands.md R142). -/
  | nop
  /-- `ENQ_STEPS`, op 0x1, format C (R143). -/
  | enqSteps (count : Word)
  /-- `ENQ_MICRO`, op 0x2, format C (R144). -/
  | enqMicro (count : Word)
  /-- `SET_DIR`, op 0x3, format B (R145). -/
  | setDir (arg : Word)
  /-- `SET_MODE`, op 0x4, format B (R146). -/
  | setMode (arg : Word)
  /-- `SET_SPEED`, op 0x5, format P (R147). -/
  | setSpeed (period : Word)
  /-- `IS_RUNNING`, op 0x8, format N (42_query_commands.md R181). -/
  | isRunning
  /-- `IS_FORWARD`, op 0x9, format N (R182). -/
  | isForward
  /-- `IS_FULL_STEP`, op 0xA, format N (R183). -/
  | isFullStep
  /-- `RD_TARGET`, op 0xB, format N (R184). -/
  | rdTarget
  /-- `RD_CURRENT`, op 0xC, format N (R185). -/
  | rdCurrent
  /-- `RD_TICKS`, op 0xD, format N (R186). -/
  | rdTicks
  /-- `RD_FLAGS`, op 0xE, format N (R187). -/
  | rdFlags
  /-- Reserved opcode 0x6, held for the "set speed in RPM" operation (30_encoding.md R85). -/
  | reservedRpmSpeed
  /-- Reserved opcode 0x7 (R85). -/
  | reserved7
  /-- Reserved opcode 0xF (R85). -/
  | reservedF
  /-- The tick event: not a command, no command word (R89; 40_tick.md R110). -/
  | tick
  deriving DecidableEq, Repr

/-- The row's mnemonic in spec/opcode_table.json. -/
def Instr.mnemonic : Instr → String
  | .nop => "NOP"
  | .enqSteps _ => "ENQ_STEPS"
  | .enqMicro _ => "ENQ_MICRO"
  | .setDir _ => "SET_DIR"
  | .setMode _ => "SET_MODE"
  | .setSpeed _ => "SET_SPEED"
  | .isRunning => "IS_RUNNING"
  | .isForward => "IS_FORWARD"
  | .isFullStep => "IS_FULL_STEP"
  | .rdTarget => "RD_TARGET"
  | .rdCurrent => "RD_CURRENT"
  | .rdTicks => "RD_TICKS"
  | .rdFlags => "RD_FLAGS"
  | .reservedRpmSpeed => "reserved__RPM_speed"
  | .reserved7 => "(reserved)"
  | .reservedF => "(reserved)"
  | .tick => "TICK"

/-- Whether the row is one of the three reserved opcodes 0x6, 0x7, 0xF (30_encoding.md R85). -/
def Instr.isReserved : Instr → Bool
  | .reservedRpmSpeed | .reserved7 | .reservedF => true
  | .nop | .enqSteps _ | .enqMicro _ | .setDir _ | .setMode _ | .setSpeed _ | .isRunning | .isForward | .isFullStep
  | .rdTarget | .rdCurrent | .rdTicks | .rdFlags | .tick => false

/-- Whether the row is one of the seven query commands (42_query_commands.md R180). -/
def Instr.isQuery : Instr → Bool
  | .isRunning | .isForward | .isFullStep | .rdTarget | .rdCurrent | .rdTicks | .rdFlags => true
  | .nop | .enqSteps _ | .enqMicro _ | .setDir _ | .setMode _ | .setSpeed _ | .reservedRpmSpeed | .reserved7
  | .reservedF | .tick => false

end Sys2Proof
end

