-- ==== Sys2Proof/WellFormed.lean ====
section
/-! DEFINITION. What makes an instruction well formed (its encoding: reserved operand bits) and legal (its operand: the
ranges the block checks when it executes the command). -/

namespace Sys2Proof

/-- The reserved operand bits of the instruction's format are 0: in format B, `arg[31:1]`; "in formats `N`, `C` and `P`
no operand bit is reserved" (30_encoding.md R81, R83). -/
def Instr.wellFormed : Instr → Bool
  | .setDir arg => arg.extractLsb' 1 31 == 0#31
  | .setMode arg => arg.extractLsb' 1 31 == 0#31
  | .nop | .enqSteps _ | .enqMicro _ | .setSpeed _ | .isRunning | .isForward | .isFullStep | .rdTarget | .rdCurrent
  | .rdTicks | .rdFlags | .reservedRpmSpeed | .reserved7 | .reservedF | .tick => true

/-- The command executes with status OK: not a reserved opcode (30_encoding.md R85), no reserved operand bit set (R83),
and a SET_SPEED period in `1 .. 2^PERIOD_W - 1` (R82, 41_motion_commands.md R147). -/
def Instr.legal (p : Params) (i : Instr) : Bool :=
  match i with
  | .setSpeed period => period != 0#32 && decide (period.toNat < 2 ^ p.periodW)
  | .setDir arg => (Instr.setDir arg).wellFormed
  | .setMode arg => (Instr.setMode arg).wellFormed
  | .reservedRpmSpeed | .reserved7 | .reservedF => false
  | .nop | .enqSteps _ | .enqMicro _ | .isRunning | .isForward | .isFullStep | .rdTarget | .rdCurrent | .rdTicks
  | .rdFlags | .tick => true

end Sys2Proof
end

