-- ==== Sys2Proof/Decode.lean ====
section
/-! DEFINITION. The total decoder of 30_encoding.md R91, the encoder written from the same opcode map (R84), and the
opcode table's mask and match rows. -/

namespace Sys2Proof

/-- `Decode(op, arg)` of 30_encoding.md R91: "every one of the 16 opcodes has exactly one arm". BADOP is the reserved
instruction of the opcode; BADARG is the format B instruction with its whole argument (log entry 8). The last arm is
opcode 0xF, the only 4-bit value left. -/
def decode (op : BitVec 4) (arg : Word) : Instr :=
  match op.toNat with
  | 0x0 => .nop
  | 0x1 => .enqSteps arg
  | 0x2 => .enqMicro arg
  | 0x3 => .setDir arg
  | 0x4 => .setMode arg
  | 0x5 => .setSpeed arg
  | 0x6 => .reservedRpmSpeed
  | 0x7 => .reserved7
  | 0x8 => .isRunning
  | 0x9 => .isForward
  | 0xA => .isFullStep
  | 0xB => .rdTarget
  | 0xC => .rdCurrent
  | 0xD => .rdTicks
  | 0xE => .rdFlags
  | _ => .reservedF

/-- `CW[35:32]` (30_encoding.md R80). -/
def opOf (cw : CommandWord) : BitVec 4 := cw.extractLsb' 32 4

/-- `CW[31:0]` (30_encoding.md R80). -/
def argOf (cw : CommandWord) : Word := cw.extractLsb' 0 32

/-- `CW = {op, arg}`: the opcode in the more significant bits (30_encoding.md R80, 00_scope.md R8). -/
def packCommand (op : BitVec 4) (arg : Word) : CommandWord := op ++ arg

/-- The decoder on a packed command word: total over all 2^36 of them (30_encoding.md R86). -/
def decodeWord (cw : CommandWord) : Instr := decode (opOf cw) (argOf cw)

/-- Why a number is no command word. -/
inductive DecodeError where
  /-- A bit above CW[35] is set: a command word has 36 bits (30_encoding.md R80). -/
  | widerThanCommandWord
  deriving DecidableEq, Repr

/-- The decoder on any number: every number below 2^36 is a command, every other one is rejected by name. -/
def decodeNumber (w : Nat) : Except DecodeError Instr :=
  if w < 2 ^ 36 then .ok (decodeWord (BitVec.ofNat 36 w)) else .error .widerThanCommandWord

/-- The instruction the decoder reads from the low `nbits` bits of `w`, numbered as spec/opcode_table.json numbers them
(bit 0 is `CW[0]`); every bit above `nbits` is 0. -/
def decodeTableWord (nbits w : Nat) : Option Instr :=
  (decodeNumber (w % 2 ^ nbits)).toOption

/-- The opcode and argument of a command; none for the tick, which "is not a command and has no command word"
(30_encoding.md R84, R89). The ignored argument of format N and of the reserved opcodes is written 0. -/
def encodeParts : Instr → Option (BitVec 4 × Word)
  | .nop => some (0x0#4, 0#32)
  | .enqSteps count => some (0x1#4, count)
  | .enqMicro count => some (0x2#4, count)
  | .setDir arg => some (0x3#4, arg)
  | .setMode arg => some (0x4#4, arg)
  | .setSpeed period => some (0x5#4, period)
  | .reservedRpmSpeed => some (0x6#4, 0#32)
  | .reserved7 => some (0x7#4, 0#32)
  | .isRunning => some (0x8#4, 0#32)
  | .isForward => some (0x9#4, 0#32)
  | .isFullStep => some (0xA#4, 0#32)
  | .rdTarget => some (0xB#4, 0#32)
  | .rdCurrent => some (0xC#4, 0#32)
  | .rdTicks => some (0xD#4, 0#32)
  | .rdFlags => some (0xE#4, 0#32)
  | .reservedF => some (0xF#4, 0#32)
  | .tick => none

/-- The command word of an instruction. -/
def encode (i : Instr) : Option CommandWord :=
  (encodeParts i).map fun parts => packCommand parts.1 parts.2

/-- One command row of spec/opcode_table.json: a word belongs to the row when `word &&& mask = pattern`. -/
structure TableRow where
  mnemonic : String
  pattern : CommandWord
  mask : CommandWord
  deriving DecidableEq, Repr

/-- The sixteen command rows of spec/opcode_table.json, in its order (the TICK row has no command word, R89). -/
def opcodeTable : List TableRow :=
  [⟨"NOP", 0x000000000#36, 0xF00000000#36⟩, ⟨"ENQ_STEPS", 0x100000000#36, 0xF00000000#36⟩,
   ⟨"ENQ_MICRO", 0x200000000#36, 0xF00000000#36⟩, ⟨"SET_DIR", 0x300000000#36, 0xFFFFFFFFE#36⟩,
   ⟨"SET_MODE", 0x400000000#36, 0xFFFFFFFFE#36⟩, ⟨"SET_SPEED", 0x500000000#36, 0xF00000000#36⟩] ++
  [⟨"IS_RUNNING", 0x800000000#36, 0xF00000000#36⟩, ⟨"IS_FORWARD", 0x900000000#36, 0xF00000000#36⟩,
   ⟨"IS_FULL_STEP", 0xA00000000#36, 0xF00000000#36⟩, ⟨"RD_TARGET", 0xB00000000#36, 0xF00000000#36⟩,
   ⟨"RD_CURRENT", 0xC00000000#36, 0xF00000000#36⟩, ⟨"RD_TICKS", 0xD00000000#36, 0xF00000000#36⟩,
   ⟨"RD_FLAGS", 0xE00000000#36, 0xF00000000#36⟩] ++
  [⟨"reserved__RPM_speed", 0x600000000#36, 0xF00000000#36⟩, ⟨"(reserved)", 0x700000000#36, 0xF00000000#36⟩,
   ⟨"(reserved)", 0xF00000000#36, 0xF00000000#36⟩]

end Sys2Proof
end

