-- ==== Sys2Proof/Machine/State.lean ====
section
/-! DEFINITION. The state of the block: the registers of 10_state.md R20, the parameters of the machine, and the input
values of the coming rising edges. All of it is plain data. -/

namespace Sys2Proof.Machine

/-- `dir` (10_state.md R23): 0 Forward, 1 Backward (the bit values are `Direction.ofBit`, Operands.lean). -/
inductive Direction where
  | forward
  | backward
  deriving DecidableEq, Repr

/-- `mode` (10_state.md R24): 0 Half, 1 Full (the bit values are `Mode.ofBit`, Operands.lean). -/
inductive Mode where
  | half
  | full
  deriving DecidableEq, Repr

/-- The response statuses of 30_encoding.md R90 (the codes are `Status.code`, Ops.lean). -/
inductive Status where
  /-- 0: the command executed. -/
  | ok
  /-- 1: reserved opcode. -/
  | errOp
  /-- 2: illegal operand. -/
  | errArg
  /-- 3: reserved for the quiescence-wait timeout, never produced (60_exceptions.md R203). -/
  | errQTimeout
  deriving DecidableEq, Repr

/-- The input ports sampled at one rising edge of `clk` (10_state.md R36). The edge itself is the step. -/
structure Edge where
  rst : Bool
  tick : Bool
  cmdValid : Bool
  cmdOp : BitVec 4
  cmdArg : Word
  deriving DecidableEq, Repr

/-- An edge at which nothing is presented: `rst = 0`, `tick = 0`, `cmd_valid = 0` (70_reset_and_hazards.md R234). -/
def Edge.idle : Edge := ⟨false, false, false, 0#4, 0#32⟩

/-- The state of the block. The first seventeen registers are those of 10_state.md R20, in its order, under its names;
`params`, `attached` and `edges` are the model's own fields (log entries 1, 3, 4). A counter or period register is held
in 32 bits, and its own width is a parameter: Safety.lean states that it fits, and every step keeps that (log entry 6). -/
structure State where
  /-- R21: cumulative step units requested. -/
  target : Word
  /-- R22: cumulative step units advanced (or collapsed to `target`). -/
  current : Word
  /-- R23. -/
  dir : Direction
  /-- R24. -/
  mode : Mode
  /-- R25: the commanded period. -/
  cmdPeriod : Word
  /-- R26: the period in use, on the `cmp_period` output. -/
  effPeriod : Word
  /-- R27: ticks serviced. -/
  tickCount : Word
  /-- R28: StepIndex. -/
  stepIdx : BitVec 3
  /-- R29: the last coil pattern written. -/
  coil : BitVec 4
  /-- R30: 1 in the cycle after an active tick. -/
  coilWe : Bool
  /-- R31: 1 in the cycle after a period adoption or the first edge after reset. -/
  cmpLoad : Bool
  /-- R32: drives `timer_en`. -/
  started : Bool
  /-- R33: sticky counter-overflow warning. -/
  ovfWarn : Bool
  /-- R34: sticky invariant-violation fault. -/
  halted : Bool
  /-- R35: 1 in the cycle after an accepted command. -/
  rspValid : Bool
  /-- R35: the status code of the last command. -/
  rspStatus : BitVec 2
  /-- R35: the result of the last command. -/
  rspData : Word
  /-- The implementation parameters of this machine (00_scope.md R5); no step changes them. -/
  params : Params
  /-- Whether a reset edge has happened: before it the registers hold unspecified values and a run is refused
  (10_state.md R47). -/
  attached : Bool
  /-- The inputs the environment presents at the coming edges, oldest first (00_scope.md R7: "chosen by the
  environment"). -/
  edges : List Edge
  deriving DecidableEq, Repr

/-- Why the machine stops with a fault. -/
inductive Fault where
  /-- A phase ROM read at `idx >= L(mode)`, where "the primitive has no value" (20_memory.md R64). Raised by
  `stepMotor` when `phaseRom` gives nothing. No state raises it, because the tick checks the range first (40_tick.md
  R114). Safe: it stands in place of a value the spec does not give (log entry 7). -/
  | phaseRomOutOfRange
  deriving DecidableEq, Repr

/-- Why a step has no meaning. -/
inductive Refusal where
  /-- An instruction without a meaning in this model, refused in `exec`'s arm. No arm does so. Safe. -/
  | notModelled (mnemonic : String)
  /-- An edge with `rst = 0` before the first reset edge: "a model does not give a meaning to any cycle before the first
  reset edge: it refuses such a run" (10_state.md R47, D27). Raised by `cycle`. Safe (log entry 4). -/
  | beforeFirstReset
  deriving DecidableEq, Repr

/-- `RESET_STATE` (20_memory.md R69): every register at the value of 10_state.md R46, for the machine's parameters, with
no input presented yet. -/
def State.resetOf (p : Params) : State where
  target := 0#32
  current := 0#32
  dir := .forward
  mode := .half
  cmdPeriod := p.initPeriod
  effPeriod := p.initPeriod
  tickCount := 0#32
  stepIdx := 0#3
  coil := 0b0000#4
  coilWe := false
  cmpLoad := false
  started := false
  ovfWarn := false
  halted := false
  rspValid := false
  rspStatus := 0#2
  rspData := 0#32
  params := p
  attached := true
  edges := []

/-- The machine right after a reset edge, with the default parameters. DESIGN CHOICE: the parameters, `INIT_PERIOD`
among them, are `Params.defaults` (unsafe, log entry 2). -/
def State.reset : State := State.resetOf Params.defaults

end Sys2Proof.Machine
end

