-- ==== Sys2Proof/Machine/Flags.lean ====
section
/-! DEFINITION. The status flags of 10_state.md R37 and R42, the conditions that set the overflow warning, and the
quantities derived from the registers. -/

namespace Sys2Proof.Machine

/-- `running = (current != target)` (10_state.md R37). -/
def running (s : State) : Bool := s.current != s.target

/-- `forward = (dir == 0)` (10_state.md R37). -/
def forward (s : State) : Bool := s.dir == .forward

/-- `full_step = (mode == 1)` (10_state.md R37). -/
def fullStep (s : State) : Bool := s.mode == .full

/-- `pending = (target - current) mod 2^STEP_W`, the step units still to step (10_state.md R49). The added `2^STEP_W`
keeps the difference of the two numbers below it non-negative. -/
def pending (s : State) : Nat :=
  (s.target.toNat + 2 ^ s.params.stepW - s.current.toNat) % 2 ^ s.params.stepW

/-- The exact sum `target + a` carries out of STEP_W bits (41_motion_commands.md R141). -/
def enqueueCarries (a : Nat) (s : State) : Bool := decide (2 ^ s.params.stepW ≤ s.target.toNat + a)

/-- `current == 2^STEP_W - 1`, so that its increment wraps (40_tick.md R117). -/
def currentWraps (s : State) : Bool := s.current.toNat == 2 ^ s.params.stepW - 1

/-- `eff_period != cmd_period`: a speed change is pending (40_tick.md R112, 10_state.md R45). -/
def speedChangePending (s : State) : Bool := s.effPeriod != s.cmdPeriod

/-- A derived bit as response data: 0 or 1, bits 31:1 zero (42_query_commands.md R181). -/
def bitData (b : Bool) : Word := if b then 1#32 else 0#32

/-- `{30'b0, halted, ovf_warn}`: bit 0 is `ovf_warn`, bit 1 is `halted` (42_query_commands.md R187). -/
def flagsData (s : State) : Word :=
  (0#30 : BitVec 30) ++ (BitVec.ofBool s.halted ++ BitVec.ofBool s.ovfWarn)

end Sys2Proof.Machine
end

