-- ==== Sys2Proof/Machine/Operands.lean ====
section
/-! DEFINITION. The operand formats of 30_encoding.md R81 to R83 and the bit encodings of direction and mode. -/

namespace Sys2Proof.Machine

/-- `dir` from its bit: 0 Forward, 1 Backward (10_state.md R23). -/
def Direction.ofBit (b : Bool) : Direction := if b then .backward else .forward

/-- The bit of `dir` (10_state.md R23). -/
def Direction.toBit (d : Direction) : Bool := d == .backward

/-- The other direction. -/
def Direction.opposite : Direction → Direction
  | .forward => .backward
  | .backward => .forward

/-- `mode` from its bit: 0 Half, 1 Full (10_state.md R24). -/
def Mode.ofBit (b : Bool) : Mode := if b then .full else .half

/-- The bit of `mode` (10_state.md R24). -/
def Mode.toBit (m : Mode) : Bool := m == .full

/-- Format `C`: `count = arg`, an unsigned 32-bit value, not scaled (30_encoding.md R82). -/
def countOperand (arg : Word) : Nat := arg.toNat

/-- Format `B`: `b = arg[0]`; none when a reserved bit of `arg[31:1]` is set (30_encoding.md R82, R83). -/
def bitOperand (arg : Word) : Option Bool :=
  if arg.extractLsb' 1 31 = 0#31 then some (arg.getLsbD 0) else none

/-- The SET_DIR operand (41_motion_commands.md R145). -/
def directionOperand (arg : Word) : Option Direction := (bitOperand arg).map Direction.ofBit

/-- The SET_MODE operand (41_motion_commands.md R146). -/
def modeOperand (arg : Word) : Option Mode := (bitOperand arg).map Mode.ofBit

/-- Format `P`: `period = arg`, "legal only in 1 .. 2^PERIOD_W - 1" (30_encoding.md R82, 41_motion_commands.md R147);
none when it is not legal. -/
def periodOperand (p : Params) (arg : Word) : Option Word :=
  if arg = 0#32 ∨ 2 ^ p.periodW ≤ arg.toNat then none else some arg

end Sys2Proof.Machine
end

