-- ==== Sys2Proof/Machine/Ops.lean ====
section
/-! DEFINITION. The operations the meanings share: modular arithmetic at a parameter width, the response (an error is
one: the block has no trap, 60_exceptions.md R206), the enqueue, the phase ROM, and the parts of a tick and of an edge. -/

namespace Sys2Proof.Machine

/-- What a meaning answers. -/
abbrev Result := Host.Outcome State Fault Refusal

/-- Run the second phase of an edge on what the first one left (20_memory.md R69). -/
def andThen (r : Result) (f : State → Result) : Result :=
  match r with
  | .next s => f s
  | .fault reason => .fault reason
  | .refused reason => .refused reason

/-- `n mod 2^width` in a register's container (00_scope.md R8: arithmetic is exact unless `mod 2^N` is written). -/
def wrap (width n : Nat) : Word := BitVec.ofNat 32 (n % 2 ^ width)

/-- `L(mode)`: 8 for Half, 4 for Full (00_scope.md R6). -/
def cycleLength : Mode → Nat
  | .half => 8
  | .full => 4

/-- `mult(mode)`: 8 for Half, 4 for Full (00_scope.md R6). -/
def enqueueMultiplier : Mode → Nat
  | .half => 8
  | .full => 4

/-- `Status(code)` as its 2-bit code (30_encoding.md R90). -/
def Status.code : Status → BitVec 2
  | .ok => 0#2
  | .errOp => 1#2
  | .errArg => 2#2
  | .errQTimeout => 3#2

/-! ### Responses -/

/-- Write the three response registers (10_state.md R35: every accepted command writes them). -/
def writeResponse (status : Status) (data : Word) (s : State) : State :=
  { s with rspValid := true, rspStatus := status.code, rspData := data }

/-- The command preamble of 41_motion_commands.md R140: `rsp_valid <- 1; rsp_status <- OK; rsp_data <- 0`. -/
def acceptCommand (s : State) : State := writeResponse .ok 0#32 s

/-- `Respond(v)` (00_scope.md R9). -/
def respond (data : Word) (s : State) : State := writeResponse .ok data s

/-- `raise Status(code)` (00_scope.md R9): the error response, `rsp_data = 0`, "no other register changes in that command
phase". This is the block's one error entry (60_exceptions.md R201, R202, R206): it saves nothing and transfers no
control, and the next command executes as normal, so there is no return beside it (R207). -/
def raiseStatus (status : Status) (s : State) : State := writeResponse status 0#32 s

/-! ### Motion -/

/-- `AddTarget(a)` (41_motion_commands.md R141). -/
def addTarget (a : Nat) (s : State) : State :=
  { s with ovfWarn := s.ovfWarn || enqueueCarries a s, target := wrap s.params.stepW (s.target.toNat + a) }

/-- The SET_DIR effect (41_motion_commands.md R145): nothing if the direction is held already, otherwise the new
direction and the collapse `current <- target`. -/
def changeDirection (d : Direction) (s : State) : State :=
  if d = s.dir then s else { s with dir := d, current := s.target }

/-- `step_idx mod L(m)`, the clamp of SET_MODE (41_motion_commands.md R146). -/
def clampIndex (m : Mode) (i : BitVec 3) : BitVec 3 := BitVec.ofNat 3 (i.toNat % cycleLength m)

/-- The SET_MODE effect (41_motion_commands.md R146): the mode and the clamp, in one step. -/
def changeMode (m : Mode) (s : State) : State := { s with mode := m, stepIdx := clampIndex m s.stepIdx }

/-- The SET_SPEED effect (41_motion_commands.md R147): only the commanded period, adopted by a later tick. -/
def commandPeriod (period : Word) (s : State) : State := { s with cmdPeriod := period }

/-! ### The phase ROM and the tick -/

/-- `PhaseRom(mode, idx)` (20_memory.md R64): the entry of the mode's table, and nothing at `idx >= L(mode)`, where "the
primitive has no value". -/
def phaseRom (p : Params) (m : Mode) (idx : Nat) : Option (BitVec 4) :=
  match m with
  | .half => p.phaseHalf[idx]?
  | .full => p.phaseFull[idx]?

/-- `Advance(i, dir, mode)` (40_tick.md R115). -/
def advance (i : BitVec 3) (d : Direction) (m : Mode) : BitVec 3 :=
  match d with
  | .forward => BitVec.ofNat 3 ((i.toNat + 1) % cycleLength m)
  | .backward => BitVec.ofNat 3 ((i.toNat + cycleLength m - 1) % cycleLength m)

/-- Step 1 of the tick: `tick_count <- (tick_count + 1) mod 2^TICK_W` (40_tick.md R111). -/
def countTick (s : State) : State := { s with tickCount := wrap s.params.tickW (s.tickCount.toNat + 1) }

/-- Step 2 of the tick: adopt a pending period and pulse `cmp_load`; otherwise write nothing (40_tick.md R112). -/
def adoptPeriod (s : State) : State :=
  if speedChangePending s then { s with effPeriod := s.cmdPeriod, cmpLoad := true } else s

/-- The writes of step 4 with the new index and its pattern (40_tick.md R115 to R117): the overflow warning on a wrap of
`current`, the progress count, the index, the coils and their write pulse. -/
def emitStep (i : BitVec 3) (pattern : BitVec 4) (s : State) : State :=
  { s with
    ovfWarn := s.ovfWarn || currentWraps s
    current := wrap s.params.stepW (s.current.toNat + 1)
    stepIdx := i
    coil := pattern
    coilWe := true }

/-- Step 4 of the tick: advance the index and emit its pattern (40_tick.md R115, R116). The fault arm stands where the
ROM has no value; no state reaches it (log entry 7). -/
def stepMotor (s : State) : Result :=
  match phaseRom s.params s.mode (advance s.stepIdx s.dir s.mode).toNat with
  | some pattern => .next (emitStep (advance s.stepIdx s.dir s.mode) pattern s)
  | none => .fault .phaseRomOutOfRange

/-! ### The parts of an edge -/

/-- The inputs at the coming edge: the oldest the environment presents; with none left, nothing is presented
(DESIGN CHOICE, log entry 3). -/
def nextEdge (s : State) : Edge := s.edges.headD .idle

/-- The state once the coming edge's inputs are taken. -/
def popEdge (s : State) : State := { s with edges := s.edges.tail }

/-- An edge with `rst = 1`: every register takes its reset value (20_memory.md R69, 70_reset_and_hazards.md R230). The
parameters and the inputs of later edges are the environment's and stay. -/
def resetEdge (s : State) : State := { State.resetOf s.params with edges := s.edges }

/-- What `Cycle` does before the two phases at an edge with `rst = 0` (20_memory.md R69): the pulses end, `cmp_load` is
pulsed at the first edge after reset, and the block is started (70_reset_and_hazards.md R232). -/
def beginEdge (s : State) : State :=
  { s with coilWe := false, rspValid := false, cmpLoad := !s.started, started := true }

end Sys2Proof.Machine
end

