-- ==== Sys2Proof/Machine/Motion.lean ====
section
/-! DEFINITION. The meanings of the motion commands (41_motion_commands.md): each is the command phase of R140 with that
command. Every check comes before the first write. -/

namespace Sys2Proof.Machine

/-- NOP (41_motion_commands.md R142): nothing beyond the preamble. -/
def execNop (s : State) : Result := .next (acceptCommand s)

/-- ENQ_STEPS (41_motion_commands.md R143): `AddTarget(count * mult(mode))`, the product exact. -/
def execEnqSteps (count : Word) (s : State) : Result :=
  .next (addTarget (countOperand count * enqueueMultiplier s.mode) (acceptCommand s))

/-- ENQ_MICRO (41_motion_commands.md R144): `AddTarget(count)`, independent of the mode. -/
def execEnqMicro (count : Word) (s : State) : Result :=
  .next (addTarget (countOperand count) (acceptCommand s))

/-- SET_DIR (41_motion_commands.md R145). -/
def execSetDir (arg : Word) (s : State) : Result :=
  match directionOperand arg with
  | some d => .next (changeDirection d (acceptCommand s))
  | none => .next (raiseStatus .errArg s)

/-- SET_MODE (41_motion_commands.md R146). -/
def execSetMode (arg : Word) (s : State) : Result :=
  match modeOperand arg with
  | some m => .next (changeMode m (acceptCommand s))
  | none => .next (raiseStatus .errArg s)

/-- SET_SPEED (41_motion_commands.md R147). -/
def execSetSpeed (arg : Word) (s : State) : Result :=
  match periodOperand s.params arg with
  | some period => .next (commandPeriod period (acceptCommand s))
  | none => .next (raiseStatus .errArg s)

end Sys2Proof.Machine
end

