-- ==== Sys2Proof/Machine/Query.lean ====
section
/-! DEFINITION. The meanings of the query commands (42_query_commands.md): each writes the response registers and nothing
else (R180). The counters are read zero-extended to 32 bits, which their 32-bit container is. -/

namespace Sys2Proof.Machine

/-- IS_RUNNING (42_query_commands.md R181). -/
def execIsRunning (s : State) : Result := .next (respond (bitData (running s)) s)

/-- IS_FORWARD (42_query_commands.md R182). -/
def execIsForward (s : State) : Result := .next (respond (bitData (forward s)) s)

/-- IS_FULL_STEP (42_query_commands.md R183). -/
def execIsFullStep (s : State) : Result := .next (respond (bitData (fullStep s)) s)

/-- RD_TARGET (42_query_commands.md R184). -/
def execRdTarget (s : State) : Result := .next (respond s.target s)

/-- RD_CURRENT (42_query_commands.md R185). -/
def execRdCurrent (s : State) : Result := .next (respond s.current s)

/-- RD_TICKS (42_query_commands.md R186). -/
def execRdTicks (s : State) : Result := .next (respond s.tickCount s)

/-- RD_FLAGS (42_query_commands.md R187): reading does not clear the sticky bits. -/
def execRdFlags (s : State) : Result := .next (respond (flagsData s) s)

end Sys2Proof.Machine
end

