-- ==== Sys2Proof/Machine/Reserved.lean ====
section
/-! DEFINITION. The meanings of the reserved opcodes (30_encoding.md R85): each answers ERR_OP and changes nothing else
(60_exceptions.md R201). -/

namespace Sys2Proof.Machine

/-- Opcode 0x6, held for the RPM operation, which "gets no meaning in this version" (30_encoding.md R85). -/
def execReservedRpmSpeed (s : State) : Result := .next (raiseStatus .errOp s)

/-- Opcode 0x7 (30_encoding.md R85). -/
def execReserved7 (s : State) : Result := .next (raiseStatus .errOp s)

/-- Opcode 0xF (30_encoding.md R85). -/
def execReservedF (s : State) : Result := .next (raiseStatus .errOp s)

end Sys2Proof.Machine
end

