-- ==== Sys2Proof/Machine/Tick.lean ====
section
/-! DEFINITION. The meaning of the tick event (40_tick.md). -/

namespace Sys2Proof.Machine

/-- `TickPhase(s)` (40_tick.md R110): count, adopt a pending period, then idle (R113), frozen while halted or newly halted
on an out-of-range index (R114), or one step of the motor (R115 to R117). -/
def execTick (s : State) : Result :=
  let serviced := adoptPeriod (countTick s)
  if serviced.current = serviced.target then .next serviced
  else if serviced.halted then .next serviced
  else if cycleLength serviced.mode ≤ serviced.stepIdx.toNat then .next { serviced with halted := true }
  else stepMotor serviced

end Sys2Proof.Machine
end

