-- ==== Sys2Proof/Machine/Dispatch.lean ====
section
/-! DEFINITION. One arm per constructor of Instr: the phase of an edge that the instruction is. -/

namespace Sys2Proof.Machine

/-- For a command, the command phase of 41_motion_commands.md R140 with that command; for the tick, the tick phase of
40_tick.md R110. -/
def exec (i : Instr) (s : State) : Host.Outcome State Fault Refusal :=
  match i with
  | .nop => Sys2Proof.Machine.execNop s
  | .enqSteps count => Sys2Proof.Machine.execEnqSteps count s
  | .enqMicro count => Sys2Proof.Machine.execEnqMicro count s
  | .setDir arg => Sys2Proof.Machine.execSetDir arg s
  | .setMode arg => Sys2Proof.Machine.execSetMode arg s
  | .setSpeed period => Sys2Proof.Machine.execSetSpeed period s
  | .isRunning => Sys2Proof.Machine.execIsRunning s
  | .isForward => Sys2Proof.Machine.execIsForward s
  | .isFullStep => Sys2Proof.Machine.execIsFullStep s
  | .rdTarget => Sys2Proof.Machine.execRdTarget s
  | .rdCurrent => Sys2Proof.Machine.execRdCurrent s
  | .rdTicks => Sys2Proof.Machine.execRdTicks s
  | .rdFlags => Sys2Proof.Machine.execRdFlags s
  | .reservedRpmSpeed => Sys2Proof.Machine.execReservedRpmSpeed s
  | .reserved7 => Sys2Proof.Machine.execReserved7 s
  | .reservedF => Sys2Proof.Machine.execReservedF s
  | .tick => Sys2Proof.Machine.execTick s

end Sys2Proof.Machine
end

