-- ==== Sys2Proof/Machine/Cycle.lean ====
section
/-! DEFINITION. The whole behaviour of the block at one rising edge (20_memory.md R69). -/

namespace Sys2Proof.Machine

/-- The tick phase: run at an edge with `tick = 1` (20_memory.md R69). -/
def tickPhase (e : Edge) (s : State) : Result := if e.tick then exec .tick s else .next s

/-- The command phase: run at an edge with `cmd_valid = 1` (20_memory.md R69, 41_motion_commands.md R140). -/
def commandPhase (e : Edge) (s : State) : Result :=
  if e.cmdValid then exec (decode e.cmdOp e.cmdArg) s else .next s

/-- `Cycle(s, rst, tick, cmd_valid, cmd_op, cmd_arg)` (20_memory.md R69): reset, then the tick phase, then the command
phase (60_exceptions.md R208). Before the first reset edge only a reset has a meaning (10_state.md R47). -/
def cycle (e : Edge) (s : State) : Result :=
  if e.rst then .next (resetEdge s)
  else if s.attached then andThen (tickPhase e (beginEdge s)) (commandPhase e)
  else .refused .beforeFirstReset

/-- The edge at which the instruction is presented, and nothing else: a command on the command port (10_state.md R36,
30_encoding.md R80), the tick on the tick input (R89). -/
def presentInstr (i : Instr) : Edge :=
  match encodeParts i with
  | some (op, arg) => { Edge.idle with cmdValid := true, cmdOp := op, cmdArg := arg }
  | none => { Edge.idle with tick := true }

/-- The same with the tick input at 1 at that edge too (30_encoding.md R87, `TICK + MNEMONIC`). -/
def withTick (e : Edge) : Edge := { e with tick := true }

/-- An edge with `rst = 1` (30_encoding.md R87, `RESET`). -/
def resetInput : Edge := { Edge.idle with rst := true }

end Sys2Proof.Machine
end

