-- ==== Sys2Proof/Machine/Step.lean ====
section
/-! DEFINITION. One step is one rising clock edge (00_scope.md R7). -/

namespace Sys2Proof.Machine

/-- One rising edge with the inputs the environment presents at it. -/
def step (s : State) : Host.Outcome State Fault Refusal := cycle (nextEdge s) (popEdge s)

/-- `s` with the command word of the low `nbits` bits of `w` presented at the coming edge (`rst = 0`, `tick = 0`,
`cmd_valid = 1`), in place of what the environment presented there; the later edges stay. The state is taken as one that
has seen its reset edge. A number that is no command word presents no command (log entry 5). -/
def State.withFetchWord (s : State) (nbits w : Nat) : State :=
  let number := w % 2 ^ nbits
  let word := BitVec.ofNat 36 number
  let presented : Edge := ⟨false, false, decide (number < 2 ^ 36), opOf word, argOf word⟩
  { s with attached := true, edges := presented :: s.edges.tail }

end Sys2Proof.Machine
end

