-- ==== Sys2Proof/Machine/Listing.lean ====
section
/-! DEFINITION. The listings of the spec: a line stands for one edge (30_encoding.md R87), a pseudo-instruction for the
lines it expands to (R88), and a text line is read as R87 writes it. -/

namespace Sys2Proof.Machine

/-- One line of a listing (30_encoding.md R87). -/
inductive Line where
  /-- `RESET`. -/
  | reset
  /-- `TICK`. -/
  | tick
  /-- `MNEMONIC operand`: the command at an edge with `tick = 0`. -/
  | command (i : Instr)
  /-- `TICK + MNEMONIC operand`: one edge with both. -/
  | tickAnd (i : Instr)
  deriving DecidableEq, Repr

/-- The edge a line stands for. -/
def Line.edge : Line → Edge
  | .reset => resetInput
  | .tick => presentInstr .tick
  | .command i => presentInstr i
  | .tickAnd i => withTick (presentInstr i)

/-- The edges of a listing, one per line. -/
def listingEdges (lines : List Line) : List Edge := lines.map Line.edge

/-- The state with a listing's edges presented next. -/
def present (lines : List Line) (s : State) : State := { s with edges := listingEdges lines ++ s.edges }

/-! ### Pseudo-instructions -/

/-- The pseudo-instructions of 30_encoding.md R88, under the document's names. -/
inductive Pseudo where
  | enqueueSteps (n : Word)
  | enqueueMicroSteps (n : Word)
  | setDirection (d : Direction)
  | setSteppingMode (m : Mode)
  | setSpeed (p : Word)
  | isRunning
  | isForward
  | isFullStep
  | queryDiagnostics
  | cancel
  | attach
  deriving DecidableEq, Repr

/-- The format B argument of a bit: `arg[31:1] = 0`, `arg[0] = b` (30_encoding.md R81). -/
def bitArgument (b : Bool) : Word := if b then 1#32 else 0#32

/-- The SET_DIR command of a direction. -/
def setDirCommand (d : Direction) : Instr := .setDir (bitArgument d.toBit)

/-- The SET_MODE command of a mode. -/
def setModeCommand (m : Mode) : Instr := .setMode (bitArgument m.toBit)

/-- The expansion of a pseudo-instruction into the lines issued at consecutive edges (30_encoding.md R88). CANCEL needs
the present direction. -/
def Pseudo.expand (presentDir : Direction) : Pseudo → List Line
  | .enqueueSteps n => [.command (.enqSteps n)]
  | .enqueueMicroSteps n => [.command (.enqMicro n)]
  | .setDirection d => [.command (setDirCommand d)]
  | .setSteppingMode m => [.command (setModeCommand m)]
  | .setSpeed p => [.command (.setSpeed p)]
  | .isRunning => [.command .isRunning]
  | .isForward => [.command .isForward]
  | .isFullStep => [.command .isFullStep]
  | .queryDiagnostics => [.command .rdTarget, .command .rdCurrent, .command .rdTicks]
  | .cancel => [.command (setDirCommand presentDir.opposite), .command (setDirCommand presentDir)]
  | .attach => [.reset]

/-! ### Text -/

/-- The space-separated words of a line. -/
def splitWords (text : List Char) : List (List Char) :=
  (text.foldr
    (fun c groups =>
      if c = ' ' then [] :: groups
      else
        match groups with
        | [] => [[c]]
        | g :: rest => (c :: g) :: rest)
    [[]]).filter (fun word => !word.isEmpty)

/-- A digit's value in a base of at most 16. -/
def digitValue (base : Nat) (c : Char) : Option Nat :=
  let n := c.toNat
  let v :=
    if 48 ≤ n ∧ n ≤ 57 then n - 48
    else if 65 ≤ n ∧ n ≤ 70 then n - 55
    else if 97 ≤ n ∧ n ≤ 102 then n - 87
    else base
  if v < base then some v else none

/-- A non-empty digit string in the base. -/
def digitsValue (base : Nat) (digits : List Char) : Option Nat :=
  if digits.isEmpty then none
  else digits.foldl (fun acc c => acc.bind fun n => (digitValue base c).map fun d => n * base + d) (some 0)

/-- A decimal or `0x` hexadecimal number of at most 32 bits (30_encoding.md R87, R80). -/
def numberOperand (word : List Char) : Option Word :=
  let value :=
    match word with
    | '0' :: 'x' :: digits => digitsValue 16 digits
    | digits => digitsValue 10 digits
  value.bind fun n => if n < 2 ^ 32 then some (BitVec.ofNat 32 n) else none

/-- The operand of SET_DIR: `FWD`, `BWD` or a number (30_encoding.md R87). -/
def dirText (word : List Char) : Option Word :=
  match String.ofList word with
  | "FWD" => some 0#32
  | "BWD" => some 1#32
  | _ => numberOperand word

/-- The operand of SET_MODE: `HALF`, `FULL` or a number (30_encoding.md R87). -/
def modeText (word : List Char) : Option Word :=
  match String.ofList word with
  | "HALF" => some 0#32
  | "FULL" => some 1#32
  | _ => numberOperand word

/-- A command's words: `MNEMONIC` for format N, `MNEMONIC operand` for the others (30_encoding.md R87). -/
def assembleCommand : List (List Char) → Option Instr
  | [mnemonic] =>
    match String.ofList mnemonic with
    | "NOP" => some .nop
    | "IS_RUNNING" => some .isRunning
    | "IS_FORWARD" => some .isForward
    | "IS_FULL_STEP" => some .isFullStep
    | "RD_TARGET" => some .rdTarget
    | "RD_CURRENT" => some .rdCurrent
    | "RD_TICKS" => some .rdTicks
    | "RD_FLAGS" => some .rdFlags
    | _ => none
  | [mnemonic, operand] =>
    match String.ofList mnemonic with
    | "ENQ_STEPS" => (numberOperand operand).map .enqSteps
    | "ENQ_MICRO" => (numberOperand operand).map .enqMicro
    | "SET_DIR" => (dirText operand).map .setDir
    | "SET_MODE" => (modeText operand).map .setMode
    | "SET_SPEED" => (numberOperand operand).map .setSpeed
    | _ => none
  | _ => none

/-- A text line (30_encoding.md R87); none where it is no line of that syntax (log entry 13). -/
def assembleLine (text : String) : Option Line :=
  match splitWords text.toList with
  | [['R', 'E', 'S', 'E', 'T']] => some .reset
  | [['T', 'I', 'C', 'K']] => some .tick
  | ['T', 'I', 'C', 'K'] :: ['+'] :: rest => (assembleCommand rest).map .tickAnd
  | words => (assembleCommand words).map .command

end Sys2Proof.Machine
end

