-- ==== Sys2Proof/Machine/Outputs.lean ====
section
/-! DEFINITION. The output ports of the block (10_state.md R37, R39) and the observable behaviour of a run (00_scope.md
R11). -/

namespace Sys2Proof.Machine

/-- The values of the output ports in one cycle (10_state.md R39). -/
structure Outputs where
  coil : BitVec 4
  coilWe : Bool
  cmpPeriod : Word
  cmpLoad : Bool
  timerEn : Bool
  running : Bool
  forward : Bool
  fullStep : Bool
  rspValid : Bool
  rspStatus : BitVec 2
  rspData : Word
  deriving DecidableEq, Repr

/-- "Every output is a function of the registers after the latest rising edge only, never of the current inputs"
(10_state.md R39). -/
def outputs (s : State) : Outputs where
  coil := s.coil
  coilWe := s.coilWe
  cmpPeriod := s.effPeriod
  cmpLoad := s.cmpLoad
  timerEn := s.started
  running := running s
  forward := forward s
  fullStep := fullStep s
  rspValid := s.rspValid
  rspStatus := s.rspStatus
  rspData := s.rspData

/-- Whether the coil terminal `coilPin(pin)`, pin 1 to 4, is energized: `coil[k]` drives `coilPin(k+1)`, and a 1
energizes the coil (20_memory.md R65). -/
def terminalEnergized (o : Outputs) (pin : Nat) : Bool := 1 ≤ pin && o.coil.getLsbD (pin - 1)

/-- The observable behaviour of the next `n` edges: the outputs in the cycle after each (00_scope.md R11). It ends early
only where a step has no meaning. -/
def observe : Nat → State → List Outputs
  | 0, _ => []
  | n + 1, s =>
    match step s with
    | .next t => outputs t :: observe n t
    | .fault _ => []
    | .refused _ => []

end Sys2Proof.Machine
end

