-- ==== Sys2Proof/Safety.lean ====
section
/-! DEFINITION. What a good state and a good run are, in the terms claims use: the invariants of 10_state.md and
40_tick.md, the states reachable from a reset edge, and what a run does to the motor. -/

namespace Sys2Proof.Machine

/-- Every register is below 2 to its own width (00_scope.md R8, R5). -/
abbrev WidthsFit (s : State) : Prop :=
  s.target.toNat < 2 ^ s.params.stepW ∧ s.current.toNat < 2 ^ s.params.stepW ∧
  s.tickCount.toNat < 2 ^ s.params.tickW ∧ s.cmdPeriod.toNat < 2 ^ s.params.periodW ∧
  s.effPeriod.toNat < 2 ^ s.params.periodW

/-- Both periods are positive (10_state.md R25, R26: "never 0"). -/
abbrev PeriodsPositive (s : State) : Prop := s.cmdPeriod ≠ 0#32 ∧ s.effPeriod ≠ 0#32

/-- Invariant I1, hardware form: `step_idx < L(mode)` (10_state.md R43). -/
abbrev IndexInRange (s : State) : Prop := s.stepIdx.toNat < cycleLength s.mode

/-- The coils hold the reset value or an entry of one of the two tables (10_state.md R29: only an active tick writes
them, with a `PhaseRom` value). -/
abbrev CoilFromRom (s : State) : Prop :=
  s.coil = 0#4 ∨ s.coil ∈ s.params.phaseHalf.toList ∨ s.coil ∈ s.params.phaseFull.toList

/-- A response has one of the three produced statuses, and an error status carries no data (30_encoding.md R90,
60_exceptions.md R203). -/
abbrev ResponseLegal (s : State) : Prop := s.rspStatus ≠ 3#2 ∧ (s.rspStatus ≠ 0#2 → s.rspData = 0#32)

/-- While `started = 0` nothing has happened since the reset edge: every register holds its reset value (10_state.md
R32). -/
abbrev UntouchedUntilStarted (s : State) : Prop :=
  s.started = false → s = { State.resetOf s.params with edges := s.edges }

/-- What holds in every state of a run from a reset edge with legal parameters. -/
def State.Inv (s : State) : Prop :=
  s.params.Legal ∧ s.attached = true ∧ WidthsFit s ∧ PeriodsPositive s ∧ IndexInRange s ∧ s.halted = false ∧
  CoilFromRom s ∧ ResponseLegal s ∧ UntouchedUntilStarted s

/-- A state of some run: the run starts at a reset edge of a machine with parameters `p`, with any inputs presented at
the edges after it (00_scope.md R11). -/
inductive Reachable (p : Params) : State → Prop where
  | reset (edges : List Edge) : Reachable p { State.resetOf p with edges := edges }
  | step {s t : State} : Reachable p s → Sys2Proof.Machine.step s = .next t → Reachable p t

/-- `n` edges of the machine behind Host/Core.lean. -/
def run (n : Nat) (s : State) : Result := Host.Core.run Sys2Proof.core n s

/-- A tick event with no command, reset or other input at that edge (30_encoding.md R87, `TICK`). -/
abbrev tickEdge : Edge := presentInstr .tick

/-- An edge that accepts a command (10_state.md R35). -/
abbrev Edge.acceptsCommand (e : Edge) : Bool := e.cmdValid && !e.rst

/-- A tick event that steps the motor in this state: an active tick (00_scope.md R10, 40_tick.md R110). -/
abbrev tickIsActive (s : State) : Prop :=
  s.current ≠ s.target ∧ s.halted = false ∧ s.stepIdx.toNat < cycleLength s.mode

/-- The directions of the active ticks among the next `n` edges, oldest first: one entry for each edge whose tick event
steps the motor (00_scope.md R10), the direction it steps in. A command of that edge acts after it (20_memory.md R69). -/
def activeTickDirections : Nat → State → List Direction
  | 0, _ => []
  | n + 1, s =>
    match step s with
    | .next t =>
      (if (nextEdge s).tick && !(nextEdge s).rst && decide (tickIsActive s) then [s.dir] else []) ++
        activeTickDirections n t
    | .fault _ => []
    | .refused _ => []

/-- The patterns written to the coils at the next `n` edges, oldest first: `coil` in each cycle with `coil_we = 1`
(10_state.md R30, 40_tick.md R116). -/
def coilWrites (n : Nat) (s : State) : List (BitVec 4) :=
  ((observe n s).filter (·.coilWe)).map (·.coil)

end Sys2Proof.Machine
end

