-- ==== Sys2Proof/Certificates/Slice0/Obligations.lean ====
section
/-! DEFINITION. The statements for the provers. Each docstring names the rules of spec/ it formalises. -/

open Sys2Proof Sys2Proof.Machine

/-! ### Encoding -/

/-- Words written out from the encodings of 30_encoding.md R80, R81, R84 (and the worked command words of
95_test_vectors.md) decode to the commands they stand for. The last clause, that a number of more than 36 bits decodes to
nothing, is the model's choice (log entry 5). -/
def Obligations.WrittenOutWordsDecode : Prop :=
  decodeTableWord 36 0x012345678 = some .nop ∧
  decodeTableWord 36 0x120000000 = some (.enqSteps 0x20000000#32) ∧
  decodeTableWord 36 0x200000064 = some (.enqMicro 100#32) ∧
  decodeTableWord 36 0x300000001 = some (.setDir 1#32) ∧
  decodeTableWord 36 0x400000001 = some (.setMode 1#32) ∧
  decodeTableWord 40 0x5000000FA = some (.setSpeed 250#32) ∧
  decodeTableWord 36 0x600000064 = some .reservedRpmSpeed ∧
  decodeTableWord 36 0x8FFFFFFFF = some .isRunning ∧
  decodeTableWord 40 0xD00000000 = some .rdTicks ∧
  decodeTableWord 36 0xFFFFFFFFF = some .reservedF ∧
  decodeTableWord 40 0x1000000000 = none

/-- 30_encoding.md R91 (with R84, R85): the total decoder. Every opcode has its arm, BADOP raises ERR_OP, BADARG raises
ERR_ARG, and a format B command with clear reserved bits is the one of its bit 0. -/
def Obligations.EveryOpcodeHasItsArm : Prop :=
  ∀ (arg : Word) (s : State),
    decode 0x0#4 arg = .nop ∧ decode 0x1#4 arg = .enqSteps arg ∧ decode 0x2#4 arg = .enqMicro arg ∧
    (arg.extractLsb' 1 31 = 0#31 → decode 0x3#4 arg = setDirCommand (Direction.ofBit (arg.getLsbD 0))) ∧
    (arg.extractLsb' 1 31 ≠ 0#31 → exec (decode 0x3#4 arg) s = .next (raiseStatus .errArg s)) ∧
    (arg.extractLsb' 1 31 = 0#31 → decode 0x4#4 arg = setModeCommand (Mode.ofBit (arg.getLsbD 0))) ∧
    (arg.extractLsb' 1 31 ≠ 0#31 → exec (decode 0x4#4 arg) s = .next (raiseStatus .errArg s)) ∧
    decode 0x5#4 arg = .setSpeed arg ∧
    exec (decode 0x6#4 arg) s = .next (raiseStatus .errOp s) ∧
    exec (decode 0x7#4 arg) s = .next (raiseStatus .errOp s) ∧
    decode 0x8#4 arg = .isRunning ∧ decode 0x9#4 arg = .isForward ∧ decode 0xA#4 arg = .isFullStep ∧
    decode 0xB#4 arg = .rdTarget ∧ decode 0xC#4 arg = .rdCurrent ∧ decode 0xD#4 arg = .rdTicks ∧
    decode 0xE#4 arg = .rdFlags ∧
    exec (decode 0xF#4 arg) s = .next (raiseStatus .errOp s)

/-- 30_encoding.md R80, R81, R84, R89: every command has a word, the decoder reads the command back from it, with every
operand bit, at either width the table may give; the tick has none. -/
def Obligations.DecodeOfEncodeIsTheInstruction : Prop :=
  encode .tick = none ∧
  ∀ i : Instr, i ≠ .tick →
    ∃ cw, encode i = some cw ∧ decodeWord cw = i ∧
      decodeTableWord 36 cw.toNat = some i ∧ decodeTableWord 40 cw.toNat = some i

/-- 30_encoding.md R81, R82: the other direction. Encoding what a word decodes to gives a word with the same opcode, and
the same word where the format has an operand (opcodes 0x1 to 0x5). Two clauses are the model's, not those rules': that a
SET_DIR or SET_MODE with a reserved bit set keeps its argument, where R91 answers BADARG (log entry 8), and that the opcodes
0x6, 0x7 and 0xF stay apart, where R91 answers one BADOP (log entry 12). -/
def Obligations.EncodeOfDecodeKeepsOpcodeAndOperand : Prop :=
  ∀ cw : CommandWord, ∃ cw', encode (decodeWord cw) = some cw' ∧ opOf cw' = opOf cw ∧
    (1 ≤ (opOf cw).toNat → (opOf cw).toNat ≤ 5 → cw' = cw)

/-- 30_encoding.md R84, R86 and spec/opcode_table.json: a word that matches a row decodes to the row's mnemonic, and no
word matches two rows. -/
def Obligations.TableRowsDecodeToTheirMnemonicAlone : Prop :=
  (∀ row ∈ opcodeTable, ∀ cw : CommandWord, cw &&& row.mask = row.pattern →
    (decodeWord cw).mnemonic = row.mnemonic ∧ (decodeWord cw).wellFormed = true) ∧
  opcodeTable.Pairwise fun a b => ∀ cw : CommandWord, ¬(cw &&& a.mask = a.pattern ∧ cw &&& b.mask = b.pattern)

/-! ### The edge -/

/-- 70_reset_and_hazards.md R230 and the table of 10_state.md R46: an edge with `rst = 1` gives every register its reset
value, whatever the state and the other inputs. -/
def Obligations.ResetEdgeLoadsEveryResetValue : Prop :=
  ∀ (s : State) (e : Edge) (rest : List Edge), s.edges = e :: rest → e.rst = true →
    ∃ t, step s = .next t ∧
      t.target = 0#32 ∧ t.current = 0#32 ∧ t.dir = .forward ∧ t.mode = .half ∧
      t.cmdPeriod = s.params.initPeriod ∧ t.effPeriod = s.params.initPeriod ∧ t.tickCount = 0#32 ∧
      t.stepIdx = 0#3 ∧ t.coil = 0b0000#4 ∧ t.coilWe = false ∧ t.cmpLoad = false ∧ t.started = false ∧
      t.ovfWarn = false ∧ t.halted = false ∧ t.rspValid = false ∧ t.rspStatus = 0#2 ∧ t.rspData = 0#32 ∧
      t.params = s.params ∧ t.attached = true ∧ t.edges = rest

/-- 10_state.md R47: before the first reset edge no edge but a reset has a meaning. -/
def Obligations.NoMeaningBeforeTheFirstReset : Prop :=
  ∀ (s : State) (e : Edge) (rest : List Edge), s.attached = false → s.edges = e :: rest → e.rst = false →
    step s = .refused .beforeFirstReset

/-- A step runs the presented instruction (20_memory.md R69, 30_encoding.md R80, R89): on the state that the edge
preamble left, a command edge is exec of the decoded command, and a tick edge is exec of the tick; `presentInstr` and
`withFetchWord` present exactly that. The clause on an empty input list is the model's choice (log entry 3), and that
`withFetchWord` takes the machine as attached is too (log entry 5). -/
def Obligations.StepRunsThePresentedInstruction : Prop :=
  ∀ (s : State) (rest : List Edge),
    let start : State := { s with edges := rest, coilWe := false, rspValid := false, cmpLoad := !s.started, started := true }
    (s.attached = true →
      (∀ op arg, s.edges = ⟨false, false, true, op, arg⟩ :: rest → step s = exec (decode op arg) start) ∧
      (∀ op arg, s.edges = ⟨false, true, false, op, arg⟩ :: rest → step s = exec .tick start) ∧
      (∀ i, s.edges = presentInstr i :: rest → step s = exec i start) ∧
      (s.edges = [] → rest = [] → step s = .next start)) ∧
    (∀ w : CommandWord, s.edges.tail = rest →
      step (s.withFetchWord 36 w.toNat) = exec (decodeWord w) { start with attached := true })

/-- The whole of `Cycle` (20_memory.md R69; order of 60_exceptions.md R208): reset first, then the tick phase, then the
command phase on what the tick phase left. -/
def Obligations.EdgeIsResetThenTickThenCommand : Prop :=
  ∀ (s : State) (e : Edge) (rest : List Edge), s.attached = true → s.edges = e :: rest →
    let start : State := { s with edges := rest, coilWe := false, rspValid := false, cmpLoad := !s.started, started := true }
    (e.rst = true → step s = .next { State.resetOf s.params with edges := rest }) ∧
    (e.rst = false → ∃ mid, (if e.tick then exec .tick start else .next start) = .next mid ∧
      step s = if e.cmdValid then exec (decode e.cmdOp e.cmdArg) mid else .next mid)

/-- 40_tick.md R118, R119: on every state and with any command at the same edge, an edge with `tick = 1` is exactly one
tick event and the edge finishes; one with `tick = 0` is none. The machine never stops (00_scope.md R11), its parameters
never change, and the edge takes one entry of the inputs. -/
def Obligations.EveryEdgeFinishesAndCountsItsTick : Prop :=
  ∀ (s : State) (e : Edge) (rest : List Edge), s.attached = true → s.edges = e :: rest → s.params.tickW ≤ 32 →
    ∃ t, step s = .next t ∧ t.attached = true ∧ t.params = s.params ∧ t.edges = rest ∧
      (e.rst = false → e.tick = true → t.tickCount.toNat = (s.tickCount.toNat + 1) % 2 ^ s.params.tickW) ∧
      (e.rst = false → e.tick = false → t.tickCount = s.tickCount)

/-- 40_tick.md R119 (70_reset_and_hazards.md R240): a `tick` level held for k edges is k ticks, whatever commands the edges
carry. -/
def Obligations.TickHeldHighCountsEveryEdge : Prop :=
  ∀ (s : State) (es rest : List Edge), s.attached = true → s.params.tickW ≤ 32 → es ≠ [] →
    (∀ e ∈ es, e.rst = false ∧ e.tick = true) → s.edges = es ++ rest →
    ∃ t, run es.length s = .next t ∧ t.edges = rest ∧
      t.tickCount.toNat = (s.tickCount.toNat + es.length) % 2 ^ s.params.tickW

/-- 10_state.md R36: only the inputs sampled at the edge matter. Two runs whose later inputs differ agree in every
register after the edge. -/
def Obligations.EdgeReadsNoLaterInput : Prop :=
  ∀ (s : State) (e : Edge) (later later' : List Edge), s.attached = true →
    ∃ t : State, step { s with edges := e :: later } = .next { t with edges := later } ∧
      step { s with edges := e :: later' } = .next { t with edges := later' }

/-- 10_state.md R30, R31, R32 (and the `rsp_valid` pulse and the held response of R35): what the pulse registers show in
the cycle after an edge. -/
def Obligations.PulsesShowTheEdgeForOneCycle : Prop :=
  ∀ (s : State) (e : Edge) (rest : List Edge), s.attached = true → s.edges = e :: rest →
    ∃ t, step s = .next t ∧
      (e.rst = true → t.coilWe = false ∧ t.cmpLoad = false ∧ t.started = false ∧ t.rspValid = false) ∧
      (e.rst = false →
        t.coilWe = (e.tick && decide (tickIsActive s)) ∧
        t.cmpLoad = (!s.started || (e.tick && s.effPeriod != s.cmdPeriod)) ∧
        t.started = true ∧
        t.rspValid = e.cmdValid ∧
        (e.cmdValid = false → t.rspStatus = s.rspStatus ∧ t.rspData = s.rspData))

/-- 70_reset_and_hazards.md R232: the first edge with `rst = 0` after a reset edge starts the timer and loads the initial
period, whatever tick or command it carries; the next edge ends the pulse unless a tick adopts a new period. -/
def Obligations.FirstEdgeAfterResetStartsTheTimer : Prop :=
  ∀ (p : Params) (e e' : Edge) (rest : List Edge), e.rst = false →
    ∃ t, step { State.resetOf p with edges := e :: e' :: rest } = .next t ∧
      (outputs t).timerEn = true ∧ (outputs t).cmpLoad = true ∧ (outputs t).cmpPeriod = p.initPeriod ∧
      (e'.rst = false → e'.tick = false →
        ∃ u, step t = .next u ∧ (outputs u).timerEn = true ∧ (outputs u).cmpLoad = false)

/-- 10_state.md R33, R34 (60_exceptions.md R205): the two sticky bits after an edge with `rst = 0`. `ovf_warn` is set by an
active tick that wraps `current` and by an enqueue whose exact sum carries, `halted` by a non-idle tick that finds the
index out of range; neither is ever cleared but by reset. -/
def Obligations.StickyBitsAreSetExactlyByTheirCauses : Prop :=
  ∀ (s : State) (e : Edge) (rest : List Edge), s.attached = true → s.edges = e :: rest →
    ∃ t, step s = .next t ∧
      (e.rst = true → t.ovfWarn = false ∧ t.halted = false) ∧
      (e.rst = false →
        t.ovfWarn = (s.ovfWarn ||
          (e.tick && decide (tickIsActive s) && s.current.toNat == 2 ^ s.params.stepW - 1) ||
          (e.cmdValid && e.cmdOp == 1#4 &&
            decide (2 ^ s.params.stepW ≤ s.target.toNat + e.cmdArg.toNat * (if s.mode = .half then 8 else 4))) ||
          (e.cmdValid && e.cmdOp == 2#4 && decide (2 ^ s.params.stepW ≤ s.target.toNat + e.cmdArg.toNat))) ∧
        t.halted = (s.halted ||
          (e.tick && s.current != s.target && decide (cycleLength s.mode ≤ s.stepIdx.toNat))))

/-! ### Responses and errors -/

/-- 30_encoding.md R85, 60_exceptions.md R201: the reserved opcodes answer ERR_OP, whatever `arg` holds, and nothing else
changes. -/
def Obligations.ReservedOpcodesAnswerErrOp : Prop :=
  ∀ (s : State) (arg : Word),
    let answer : State := { s with rspValid := true, rspStatus := 1#2, rspData := 0#32 }
    (decode 0x6#4 arg = .reservedRpmSpeed ∧ exec .reservedRpmSpeed s = .next answer) ∧
    (decode 0x7#4 arg = .reserved7 ∧ exec .reserved7 s = .next answer) ∧
    (decode 0xF#4 arg = .reservedF ∧ exec .reservedF s = .next answer)

/-- 30_encoding.md R83, 60_exceptions.md R202: the causes of ERR_ARG, each with no other change; the commands that never
raise it. -/
def Obligations.IllegalOperandsAnswerErrArg : Prop :=
  ∀ (s : State) (arg : Word),
    let answer : State := { s with rspValid := true, rspStatus := 2#2, rspData := 0#32 }
    (arg.extractLsb' 1 31 ≠ 0#31 → exec (.setDir arg) s = .next answer ∧ exec (.setMode arg) s = .next answer) ∧
    ((arg = 0#32 ∨ 2 ^ s.params.periodW ≤ arg.toNat) → exec (.setSpeed arg) s = .next answer) ∧
    (∀ i : Instr, (i = .nop ∨ i = .enqSteps arg ∨ i = .enqMicro arg ∨ i.isQuery = true) →
      ∃ t, exec i s = .next t ∧ t.rspStatus = 0#2)

/-- 30_encoding.md R90, 60_exceptions.md R203, R206: every command answers; the status says exactly whether it was a
reserved opcode, an illegal operand or neither (never ERR_QTIMEOUT); an error or control command answers no data, and an
error changes nothing else. -/
def Obligations.StatusSaysExactlyWhetherTheCommandWasLegal : Prop :=
  ∀ (i : Instr) (s : State), i ≠ .tick →
    ∃ t, exec i s = .next t ∧ t.rspValid = true ∧
      t.rspStatus = (if i.isReserved then 1#2 else if i.legal s.params then 0#2 else 2#2) ∧
      (i.isQuery = false → t.rspData = 0#32) ∧
      (t.rspStatus ≠ 0#2 → t = { s with rspValid := true, rspStatus := t.rspStatus, rspData := 0#32 })

/-- 42_query_commands.md R188: a status query answers what the matching output port shows in the same cycle. -/
def Obligations.StatusQueryAgreesWithItsOutputPort : Prop :=
  ∀ (s : State) (e : Edge) (rest : List Edge), s.attached = true → s.edges = e :: rest → e.rst = false →
    e.cmdValid = true →
    ∃ t, step s = .next t ∧
      (e.cmdOp = 0x8#4 → t.rspData = if (outputs t).running then 1#32 else 0#32) ∧
      (e.cmdOp = 0x9#4 → t.rspData = if (outputs t).forward then 1#32 else 0#32) ∧
      (e.cmdOp = 0xA#4 → t.rspData = if (outputs t).fullStep then 1#32 else 0#32)

/-- 10_state.md R45: no command's response reads `step_idx`, `started` or `cmd_period`. -/
def Obligations.ResponsesDoNotRevealHiddenRegisters : Prop :=
  ∀ (i : Instr) (s : State) (idx : BitVec 3) (st : Bool) (period : Word), i ≠ .tick →
    ∃ t t', exec i s = .next t ∧ exec i { s with stepIdx := idx, started := st, cmdPeriod := period } = .next t' ∧
      t.rspValid = t'.rspValid ∧ t.rspStatus = t'.rspStatus ∧ t.rspData = t'.rspData

/-- 10_state.md R38, R48 (the columns' W entries): a register changes only in the instructions the access map gives it,
and no instruction touches the edge's own fields. -/
def Obligations.RegistersChangeOnlyByTheirWriters : Prop :=
  ∀ (i : Instr) (s : State), ∃ t, exec i s = .next t ∧
    (t.target ≠ s.target → i.mnemonic ∈ ["ENQ_STEPS", "ENQ_MICRO"]) ∧
    (t.current ≠ s.current → i.mnemonic ∈ ["TICK", "SET_DIR"]) ∧
    (t.dir ≠ s.dir → i.mnemonic = "SET_DIR") ∧
    (t.mode ≠ s.mode → i.mnemonic = "SET_MODE") ∧
    (t.cmdPeriod ≠ s.cmdPeriod → i.mnemonic = "SET_SPEED") ∧
    (t.effPeriod ≠ s.effPeriod ∨ t.tickCount ≠ s.tickCount ∨ t.coil ≠ s.coil ∨ t.coilWe ≠ s.coilWe ∨
      t.cmpLoad ≠ s.cmpLoad ∨ t.halted ≠ s.halted → i.mnemonic = "TICK") ∧
    (t.stepIdx ≠ s.stepIdx → i.mnemonic ∈ ["TICK", "SET_MODE"]) ∧
    (t.ovfWarn ≠ s.ovfWarn → i.mnemonic ∈ ["TICK", "ENQ_STEPS", "ENQ_MICRO"]) ∧
    (t.rspValid ≠ s.rspValid ∨ t.rspStatus ≠ s.rspStatus ∨ t.rspData ≠ s.rspData → i.mnemonic ≠ "TICK") ∧
    t.started = s.started ∧ t.params = s.params ∧ t.attached = s.attached ∧ t.edges = s.edges

/-! ### Motion commands -/

/-- 41_motion_commands.md R142: NOP answers and does nothing else. -/
def Obligations.NopOnlyAnswers : Prop :=
  ∀ (s : State) (arg : Word), decode 0x0#4 arg = .nop ∧
    exec .nop s = .next { s with rspValid := true, rspStatus := 0#2, rspData := 0#32 }

/-- 41_motion_commands.md R141, R143: ENQ_STEPS adds `count * mult(mode)` to `target` modulo 2^STEP_W, warns on a carry of
the exact sum, and changes nothing else; from idle, `running` becomes 1 unless the amount is 0 mod 2^STEP_W. -/
def Obligations.EnqStepsAddsWholeCycles : Prop :=
  ∀ (s : State) (count : Word), s.params.stepW ≤ 32 →
    let amount := count.toNat * (if s.mode = .half then 8 else 4)
    decode 0x1#4 count = .enqSteps count ∧
    ∃ t, exec (.enqSteps count) s = .next t ∧
      t.target.toNat = (s.target.toNat + amount) % 2 ^ s.params.stepW ∧
      t.ovfWarn = (s.ovfWarn || decide (2 ^ s.params.stepW ≤ s.target.toNat + amount)) ∧
      t = { s with target := t.target, ovfWarn := t.ovfWarn, rspValid := true, rspStatus := 0#2, rspData := 0#32 } ∧
      (s.target.toNat < 2 ^ s.params.stepW → s.current = s.target →
        running t = decide (amount % 2 ^ s.params.stepW ≠ 0))

/-- 41_motion_commands.md R141, R144: ENQ_MICRO adds `count` itself, in either mode. -/
def Obligations.EnqMicroAddsTheCount : Prop :=
  ∀ (s : State) (count : Word), s.params.stepW ≤ 32 →
    decode 0x2#4 count = .enqMicro count ∧
    ∃ t, exec (.enqMicro count) s = .next t ∧
      t.target.toNat = (s.target.toNat + count.toNat) % 2 ^ s.params.stepW ∧
      t.ovfWarn = (s.ovfWarn || decide (2 ^ s.params.stepW ≤ s.target.toNat + count.toNat)) ∧
      t = { s with target := t.target, ovfWarn := t.ovfWarn, rspValid := true, rspStatus := 0#2, rspData := 0#32 } ∧
      (s.target.toNat < 2 ^ s.params.stepW → s.current = s.target →
        running t = decide (count.toNat % 2 ^ s.params.stepW ≠ 0))

/-- 41_motion_commands.md R145: SET_DIR to the direction already held does nothing; to the other, it sets the direction
and collapses `current` to `target`, so that `running` becomes 0. With a reserved bit set it answers ERR_ARG. -/
def Obligations.SetDirCollapsesPendingMotionOnAChange : Prop :=
  ∀ (s : State) (arg : Word),
    let d : Direction := if arg.getLsbD 0 then .backward else .forward
    decode 0x3#4 arg = .setDir arg ∧
    (arg.extractLsb' 1 31 = 0#31 → d = s.dir →
      exec (.setDir arg) s = .next { s with rspValid := true, rspStatus := 0#2, rspData := 0#32 }) ∧
    (arg.extractLsb' 1 31 = 0#31 → d ≠ s.dir →
      ∃ t, exec (.setDir arg) s = .next t ∧ running t = false ∧ forward t = decide (d = .forward) ∧
        t = { s with dir := d, current := s.target, rspValid := true, rspStatus := 0#2, rspData := 0#32 }) ∧
    (arg.extractLsb' 1 31 ≠ 0#31 →
      exec (.setDir arg) s = .next { s with rspValid := true, rspStatus := 2#2, rspData := 0#32 })

/-- 41_motion_commands.md R146: SET_MODE writes the mode and clamps `step_idx` by modulo into its range, in one step, and
rewrites nothing else (not the coils); an index already in range stays. -/
def Obligations.SetModeClampsTheIndex : Prop :=
  ∀ (s : State) (arg : Word),
    let m : Mode := if arg.getLsbD 0 then .full else .half
    decode 0x4#4 arg = .setMode arg ∧
    (arg.extractLsb' 1 31 = 0#31 →
      ∃ t, exec (.setMode arg) s = .next t ∧
        t.mode = m ∧ t.stepIdx.toNat = s.stepIdx.toNat % (if m = .half then 8 else 4) ∧
        t = { s with mode := m, stepIdx := t.stepIdx, rspValid := true, rspStatus := 0#2, rspData := 0#32 } ∧
        fullStep t = decide (m = .full) ∧
        (s.stepIdx.toNat < (if m = .half then 8 else 4) → t.stepIdx = s.stepIdx)) ∧
    (arg.extractLsb' 1 31 ≠ 0#31 →
      exec (.setMode arg) s = .next { s with rspValid := true, rspStatus := 2#2, rspData := 0#32 })

/-- 41_motion_commands.md R147: SET_SPEED writes `cmd_period` alone for a period in 1 .. 2^PERIOD_W - 1 (the next tick
adopts it, pulsing `cmp_load` unless it is the period in use), and answers ERR_ARG for any other. -/
def Obligations.SetSpeedWritesOnlyTheCommandedPeriod : Prop :=
  ∀ (s : State) (period : Word), decode 0x5#4 period = .setSpeed period ∧
    (1 ≤ period.toNat → period.toNat ≤ 2 ^ s.params.periodW - 1 →
      ∃ t u, exec (.setSpeed period) s = .next t ∧
        t = { s with cmdPeriod := period, rspValid := true, rspStatus := 0#2, rspData := 0#32 } ∧
        exec .tick t = .next u ∧ u.effPeriod = period ∧
        u.cmpLoad = if s.effPeriod ≠ period then true else s.cmpLoad) ∧
    (period = 0#32 ∨ 2 ^ s.params.periodW ≤ period.toNat →
      exec (.setSpeed period) s = .next { s with rspValid := true, rspStatus := 2#2, rspData := 0#32 })

/-- 41_motion_commands.md R149: ENQ_STEPS converts rounds with the multiplier of the mode at its edge, and a later SET_MODE
leaves the pending step units unchanged. -/
def Obligations.ModeChangeKeepsPendingMotion : Prop :=
  ∀ (s : State) (count : Word) (m : Mode) (rest : List Edge), s.attached = true → s.params.stepW ≤ 32 →
    s.target.toNat < 2 ^ s.params.stepW → s.current = s.target →
    s.edges = presentInstr (.enqSteps count) :: presentInstr (setModeCommand m) :: rest →
    ∃ t, run 2 s = .next t ∧ t.mode = m ∧ t.edges = rest ∧
      pending t = (count.toNat * (if s.mode = .half then 8 else 4)) % 2 ^ s.params.stepW

/-- 10_state.md R49: what raises, lowers and clears `pending` while `halted = 0`. -/
def Obligations.PendingIsRaisedLoweredAndCollapsed : Prop :=
  ∀ s : State, s.params.stepW ≤ 32 → s.target.toNat < 2 ^ s.params.stepW → s.current.toNat < 2 ^ s.params.stepW →
    (tickIsActive s → 0 < pending s ∧ ∃ t, exec .tick s = .next t ∧ pending t = pending s - 1) ∧
    (∀ count : Word, ∃ t, exec (.enqSteps count) s = .next t ∧
      pending t = (pending s + count.toNat * (if s.mode = .half then 8 else 4)) % 2 ^ s.params.stepW) ∧
    (∀ count : Word, ∃ t, exec (.enqMicro count) s = .next t ∧
      pending t = (pending s + count.toNat) % 2 ^ s.params.stepW) ∧
    (∃ t, exec (setDirCommand s.dir.opposite) s = .next t ∧ pending t = 0)

/-- 41_motion_commands.md R148: after a SET_DIR to the other direction the block is not running and later ticks are idle;
CANCEL ends with the direction unchanged and nothing pending, and a tick at the edge of its second SET_DIR is idle. -/
def Obligations.ReversalDiscardsPendingMotion : Prop :=
  ∀ (s : State) (rest : List Edge), s.attached = true →
    (∀ k, s.edges = presentInstr (setDirCommand s.dir.opposite) :: (List.replicate k tickEdge ++ rest) →
      ∃ t, run (k + 1) s = .next t ∧ (outputs t).running = false ∧ t.dir = s.dir.opposite ∧ t.target = s.target ∧
        t.stepIdx = s.stepIdx ∧ t.coil = s.coil ∧ t.coilWe = false) ∧
    (∀ second, second = presentInstr (setDirCommand s.dir) ∨ second = withTick (presentInstr (setDirCommand s.dir)) →
      s.edges = presentInstr (setDirCommand s.dir.opposite) :: second :: rest →
      ∃ t, run 2 s = .next t ∧ (outputs t).running = false ∧ t.dir = s.dir ∧ t.target = s.target ∧
        t.stepIdx = s.stepIdx ∧ t.coil = s.coil ∧ t.coilWe = false)

/-- 70_reset_and_hazards.md R237 (41_motion_commands.md R147, 40_tick.md R112): a SET_SPEED becomes live at the first tick
event of a later edge and not before. A tick at its own edge adopts the period commanded before it. Any commands may stand
at the edges between and at the adopting edge, but between them no other SET_SPEED that executes. -/
def Obligations.SpeedChangeWaitsForTheNextTick : Prop :=
  ∀ (s : State) (period : Word) (ownTick : Bool) (between : List Edge) (adopting : Edge) (rest : List Edge),
    s.attached = true → 1 ≤ period.toNat → period.toNat ≤ 2 ^ s.params.periodW - 1 →
    (∀ e ∈ between, e.rst = false ∧ e.tick = false ∧
      (e.cmdValid = true → e.cmdOp = 0x5#4 → e.cmdArg = 0#32 ∨ 2 ^ s.params.periodW ≤ e.cmdArg.toNat)) →
    adopting.rst = false → adopting.tick = true →
    s.edges = ⟨false, ownTick, true, 0x5#4, period⟩ :: (between ++ adopting :: rest) →
    ∃ t u, run (between.length + 1) s = .next t ∧
      (outputs t).cmpPeriod = (if ownTick then s.cmdPeriod else (outputs s).cmpPeriod) ∧
      step t = .next u ∧ (outputs u).cmpPeriod = period ∧ (outputs u).cmpLoad = (period != (outputs t).cmpPeriod)

/-! ### Queries -/

/-- 42_query_commands.md R181, R182, R183: the status queries answer 0 or 1 and write nothing but the response. -/
def Obligations.StatusQueriesAnswerTheirBit : Prop :=
  ∀ (s : State) (arg : Word),
    (decode 0x8#4 arg = .isRunning ∧ exec .isRunning s = .next { s with
      rspValid := true, rspStatus := 0#2, rspData := if s.current ≠ s.target then 1#32 else 0#32 }) ∧
    (decode 0x9#4 arg = .isForward ∧ exec .isForward s = .next { s with
      rspValid := true, rspStatus := 0#2, rspData := if s.dir = .forward then 1#32 else 0#32 }) ∧
    (decode 0xA#4 arg = .isFullStep ∧ exec .isFullStep s = .next { s with
      rspValid := true, rspStatus := 0#2, rspData := if s.mode = .full then 1#32 else 0#32 })

/-- 42_query_commands.md R184, R185, R186: the counter queries answer the register, zero-extended to 32 bits. -/
def Obligations.CounterQueriesAnswerTheirRegister : Prop :=
  ∀ (s : State) (arg : Word),
    (decode 0xB#4 arg = .rdTarget ∧
      exec .rdTarget s = .next { s with rspValid := true, rspStatus := 0#2, rspData := s.target }) ∧
    (decode 0xC#4 arg = .rdCurrent ∧
      exec .rdCurrent s = .next { s with rspValid := true, rspStatus := 0#2, rspData := s.current }) ∧
    (decode 0xD#4 arg = .rdTicks ∧
      exec .rdTicks s = .next { s with rspValid := true, rspStatus := 0#2, rspData := s.tickCount })

/-- 42_query_commands.md R187: RD_FLAGS answers `ovf_warn` in bit 0, `halted` in bit 1 and zeros above, and clears
neither. -/
def Obligations.ReadFlagsAnswersBothStickyBits : Prop :=
  ∀ (s : State) (arg : Word), decode 0xE#4 arg = .rdFlags ∧
    ∃ t, exec .rdFlags s = .next t ∧
      t = { s with rspValid := true, rspStatus := 0#2, rspData := t.rspData } ∧
      t.rspData.getLsbD 0 = s.ovfWarn ∧ t.rspData.getLsbD 1 = s.halted ∧
      ∀ k, 2 ≤ k → t.rspData.getLsbD k = false

/-- 42_query_commands.md R180: a query ignores its argument, writes no register but the response, raises no error, and
repeating it gives the same. -/
def Obligations.QueriesWriteOnlyTheResponse : Prop :=
  (∀ (op : BitVec 4) (arg arg' : Word), 0x8#4 ≤ op → op ≠ 0xF#4 →
    decode op arg = decode op arg' ∧ (decode op arg).isQuery = true) ∧
  ∀ (i : Instr) (s : State), i.isQuery = true →
    ∃ t, exec i s = .next t ∧ t = { s with rspValid := true, rspStatus := 0#2, rspData := t.rspData } ∧
      exec i t = .next t

/-! ### The tick -/

/-- 40_tick.md R111, R112: every tick event, active, idle or halted, counts and adopts a pending period; nothing else
writes `eff_period`. -/
def Obligations.EveryTickCountsAndAdoptsThePeriod : Prop :=
  (∀ s : State, s.params.tickW ≤ 32 →
    ∃ t, exec .tick s = .next t ∧
      t.tickCount.toNat = (s.tickCount.toNat + 1) % 2 ^ s.params.tickW ∧
      t.effPeriod = s.cmdPeriod ∧
      t.cmpLoad = (if s.effPeriod ≠ s.cmdPeriod then true else s.cmpLoad)) ∧
  ∀ (i : Instr) (s : State), i ≠ .tick → ∃ t, exec i s = .next t ∧ t.effPeriod = s.effPeriod

/-- 40_tick.md R113 (10_state.md R44): an idle tick writes `tick_count`, `eff_period` and `cmp_load` and nothing else, and
idle is exactly `running = 0`. -/
def Obligations.IdleTickTouchesNoMotion : Prop :=
  ∀ s : State, (running s = false ↔ s.current = s.target) ∧
    (s.current = s.target → s.params.tickW ≤ 32 →
      ∃ t, exec .tick s = .next t ∧ t.tickCount.toNat = (s.tickCount.toNat + 1) % 2 ^ s.params.tickW ∧
        t = { s with
          tickCount := t.tickCount
          effPeriod := s.cmdPeriod
          cmpLoad := if s.effPeriod ≠ s.cmdPeriod then true else s.cmpLoad })

/-- 40_tick.md R115, R116, R117: an active tick advances `current` and `step_idx` by one, modulo their ranges, and emits
the new index's pattern; the rest is steps 1 and 2. -/
def Obligations.ActiveTickStepsTheMotor : Prop :=
  ∀ s : State, s.current ≠ s.target → s.halted = false → s.stepIdx.toNat < cycleLength s.mode →
    s.params.stepW ≤ 32 → s.params.tickW ≤ 32 →
    ∃ t, exec .tick s = .next t ∧
      t.stepIdx.toNat = (if s.dir = .forward then (s.stepIdx.toNat + 1) % cycleLength s.mode
        else (s.stepIdx.toNat + cycleLength s.mode - 1) % cycleLength s.mode) ∧
      phaseRom s.params s.mode t.stepIdx.toNat = some t.coil ∧
      t.current.toNat = (s.current.toNat + 1) % 2 ^ s.params.stepW ∧
      t.ovfWarn = (s.ovfWarn || s.current.toNat == 2 ^ s.params.stepW - 1) ∧
      t.tickCount.toNat = (s.tickCount.toNat + 1) % 2 ^ s.params.tickW ∧
      t = { s with
        current := t.current, stepIdx := t.stepIdx, coil := t.coil, coilWe := true, ovfWarn := t.ovfWarn
        tickCount := t.tickCount
        effPeriod := s.cmdPeriod
        cmpLoad := if s.effPeriod ≠ s.cmdPeriod then true else s.cmpLoad }

/-- 40_tick.md R114 (60_exceptions.md R204): a non-idle tick while halted, or on an out-of-range index (which then halts),
does steps 1 and 2 and no stepping. -/
def Obligations.HaltedTickDoesNotStep : Prop :=
  ∀ s : State, s.current ≠ s.target → s.params.tickW ≤ 32 →
    (s.halted = true ∨ cycleLength s.mode ≤ s.stepIdx.toNat) →
    ∃ t, exec .tick s = .next t ∧ t.tickCount.toNat = (s.tickCount.toNat + 1) % 2 ^ s.params.tickW ∧
      t = { s with
        halted := true
        tickCount := t.tickCount
        effPeriod := s.cmdPeriod
        cmpLoad := if s.effPeriod ≠ s.cmdPeriod then true else s.cmpLoad }

/-- 20_memory.md R64: the ROM reads the mode's table in range and has no value out of range, and the tick, its only
caller, never reads it there: no state makes a tick fault. -/
def Obligations.PhaseRomIsReadOnlyInRange : Prop :=
  (∀ (p : Params) (idx : Nat),
    (∀ h : idx < 8, phaseRom p .half idx = some (p.phaseHalf[idx]'h)) ∧
    (∀ h : idx < 4, phaseRom p .full idx = some (p.phaseFull[idx]'h)) ∧
    (8 ≤ idx → phaseRom p .half idx = none) ∧ (4 ≤ idx → phaseRom p .full idx = none)) ∧
  ∀ s : State, ∃ t, exec .tick s = .next t

/-- 40_tick.md R121: advancing and retreating are inverse in every mode, for every table; a Backward active tick after a
Forward one emits the pattern of the index before the Forward tick. -/
def Obligations.RetreatingRepeatsTheEarlierPattern : Prop :=
  (∀ (p : Params) (m : Mode) (i : BitVec 3), i.toNat < cycleLength m →
    advance (advance i .backward m) .forward m = i ∧ advance (advance i .forward m) .backward m = i ∧
    phaseRom p m (advance (advance i .backward m) .forward m).toNat = phaseRom p m i.toNat) ∧
  ∀ (s t : State) (goal : Word), tickIsActive s → s.dir = .forward → exec .tick s = .next t → t.current ≠ goal →
    ∃ u, exec .tick { t with dir := .backward, target := goal } = .next u ∧ u.stepIdx = s.stepIdx ∧
      phaseRom s.params s.mode s.stepIdx.toNat = some u.coil

/-- 40_tick.md R120: while idle, any number of ticks with no command changes neither the index nor the coils and writes no
coil. -/
def Obligations.RepeatedIdleTicksWriteNoCoil : Prop :=
  ∀ (k : Nat) (s : State) (rest : List Edge), s.attached = true → s.current = s.target →
    s.edges = List.replicate k tickEdge ++ rest →
    ∃ t, run k s = .next t ∧ t.stepIdx = s.stepIdx ∧ t.coil = s.coil ∧ t.current = t.target ∧
      (0 < k → t.coilWe = false)

/-- 40_tick.md R123: L(m) active ticks in one direction, at any edges of a run without reset and without a SET_MODE that
executes, return the index to its start, whatever other edges and commands come between; going Forward they emit
`TABLE[(i + 1) mod L]` to `TABLE[i]` in order. The last clause says where L(m) active ticks happen: while that many step
units are pending, every tick is active (40_tick.md R110, R113), if no enqueue and no change of direction comes between. -/
def Obligations.FullCycleReturnsToTheStartIndex : Prop :=
  ∀ (s : State) (es rest : List Edge), s.attached = true → s.edges = es ++ rest →
    (∀ e ∈ es, e.rst = false ∧ (e.cmdValid = true → e.cmdOp = 0x4#4 → e.cmdArg.extractLsb' 1 31 ≠ 0#31)) →
    (∀ d, activeTickDirections es.length s = List.replicate (cycleLength s.mode) d →
      ∃ t, run es.length s = .next t ∧ t.mode = s.mode ∧ t.stepIdx = s.stepIdx) ∧
    (activeTickDirections es.length s = List.replicate (cycleLength s.mode) .forward →
      (coilWrites es.length s).map some = (List.range (cycleLength s.mode)).map fun j =>
        phaseRom s.params s.mode ((s.stepIdx.toNat + j + 1) % cycleLength s.mode)) ∧
    (s.params.stepW ≤ 32 → s.target.toNat < 2 ^ s.params.stepW → s.current.toNat < 2 ^ s.params.stepW →
      s.halted = false → IndexInRange s → cycleLength s.mode ≤ pending s →
      es.countP (·.tick) = cycleLength s.mode →
      (∀ e ∈ es, e.cmdValid = true → e.cmdOp ≠ 0x1#4 ∧ e.cmdOp ≠ 0x2#4 ∧
        (e.cmdOp = 0x3#4 → e.cmdArg.extractLsb' 1 31 ≠ 0#31 ∨ Direction.ofBit (e.cmdArg.getLsbD 0) = s.dir)) →
      activeTickDirections es.length s = List.replicate (cycleLength s.mode) s.dir)

/-- 40_tick.md R124 (10_state.md R49): with `halted = 0` and `pending = n`, fewer than n ticks with no command leave the
block running, and n or more leave `current = target`. The premise on the index is invariant I1 (10_state.md R43). -/
def Obligations.PendingMotionEndsAfterThatManyTicks : Prop :=
  ∀ (k : Nat) (s : State) (rest : List Edge), s.attached = true → s.params.stepW ≤ 32 →
    s.target.toNat < 2 ^ s.params.stepW → s.current.toNat < 2 ^ s.params.stepW → s.halted = false → IndexInRange s →
    s.edges = List.replicate k tickEdge ++ rest →
    ∃ t, run k s = .next t ∧ t.target = s.target ∧ t.halted = false ∧ pending t = pending s - k ∧
      (k < pending s → (outputs t).running = true) ∧
      (pending s ≤ k → t.current = t.target ∧ (outputs t).running = false)

/-! ### Same-edge order -/

/-- 70_reset_and_hazards.md R235: a command at an edge with `tick = 1` executes after that edge's tick. -/
def Obligations.SameEdgeCommandActsAfterTheTick : Prop :=
  ∀ (s : State) (op : BitVec 4) (arg : Word) (rest : List Edge), s.attached = true → s.params.stepW ≤ 32 →
    s.edges = ⟨false, true, true, op, arg⟩ :: rest →
    ∃ t, step s = .next t ∧
      (s.current = s.target → op = 0x1#4 ∨ op = 0x2#4 →
        t.current = s.current ∧ t.stepIdx = s.stepIdx ∧ t.coil = s.coil ∧ t.coilWe = false) ∧
      (tickIsActive s → op = 0x3#4 → arg.extractLsb' 1 31 = 0#31 → Direction.ofBit (arg.getLsbD 0) ≠ s.dir →
        t.stepIdx = advance s.stepIdx s.dir s.mode ∧ phaseRom s.params s.mode t.stepIdx.toNat = some t.coil ∧
        t.coilWe = true ∧ t.dir = s.dir.opposite ∧ t.current = s.target ∧ t.target = s.target) ∧
      (tickIsActive s → op = 0x4#4 → arg.extractLsb' 1 31 = 0#31 →
        phaseRom s.params s.mode (advance s.stepIdx s.dir s.mode).toNat = some t.coil ∧
        t.mode = Mode.ofBit (arg.getLsbD 0) ∧
        t.stepIdx.toNat = (advance s.stepIdx s.dir s.mode).toNat % cycleLength t.mode) ∧
      (op = 0x5#4 → 1 ≤ arg.toNat → arg.toNat ≤ 2 ^ s.params.periodW - 1 →
        t.effPeriod = s.cmdPeriod ∧ t.cmdPeriod = arg) ∧
      (op = 0x8#4 → t.rspData = if t.current ≠ t.target then 1#32 else 0#32) ∧
      (op = 0x9#4 → t.rspData = if t.dir = .forward then 1#32 else 0#32) ∧
      (op = 0xA#4 → t.rspData = if t.mode = .full then 1#32 else 0#32) ∧
      (op = 0xB#4 → t.rspData = t.target) ∧
      (op = 0xC#4 → t.rspData = t.current ∧
        (tickIsActive s → t.rspData.toNat = (s.current.toNat + 1) % 2 ^ s.params.stepW)) ∧
      (op = 0xD#4 → t.rspData = t.tickCount ∧ t.rspData = wrap s.params.tickW (s.tickCount.toNat + 1)) ∧
      (op = 0xE#4 → t.rspData.getLsbD 0 = t.ovfWarn ∧ t.rspData.getLsbD 1 = t.halted)

/-! ### Outputs and invariants -/

/-- 10_state.md R37, R39: every output port is the register or the derived bit the table gives it; 20_memory.md R65:
terminal k+1 shows bit k. -/
def Obligations.OutputsShowTheRegisters : Prop :=
  ∀ s : State,
    (outputs s).coil = s.coil ∧ (outputs s).coilWe = s.coilWe ∧ (outputs s).cmpPeriod = s.effPeriod ∧
    (outputs s).cmpLoad = s.cmpLoad ∧ (outputs s).timerEn = s.started ∧
    ((outputs s).running = true ↔ s.current ≠ s.target) ∧
    ((outputs s).forward = true ↔ s.dir = .forward) ∧ ((outputs s).fullStep = true ↔ s.mode = .full) ∧
    (outputs s).rspValid = s.rspValid ∧ (outputs s).rspStatus = s.rspStatus ∧ (outputs s).rspData = s.rspData ∧
    ∀ k, k < 4 → terminalEnergized (outputs s) (k + 1) = s.coil.getLsbD k

/-- 10_state.md R46: the state after a reset edge meets the invariant, for all legal parameters and all later inputs;
State.reset does. (Its parameters are the model's choice, log entry 2.) -/
def Obligations.ResetStateMeetsTheInvariant : Prop :=
  State.reset.Inv ∧
  ∀ (p : Params) (edges : List Edge), p.Legal → State.Inv { State.resetOf p with edges := edges }

/-- The invariant (register widths, positive periods, `step_idx < L(mode)`, not halted, coils from the ROM, a legal
response, reset values until started) is kept by every step, from every state and with any inputs (10_state.md R25, R26,
R29, R32, R34, R43, 30_encoding.md R90). -/
def Obligations.EveryStepKeepsTheInvariant : Prop :=
  ∀ s t : State, s.Inv → step s = .next t → t.Inv

/-- 10_state.md R43 and 40_tick.md R122: in every state reachable from reset, with any inputs, `step_idx < L(mode)`, so a
run from reset never halts, and the machine has a next state. -/
def Obligations.NoReachableStateLeavesTheIndexRange : Prop :=
  ∀ (p : Params) (s : State), p.Legal → Reachable p s →
    s.stepIdx.toNat < cycleLength s.mode ∧ (s.mode = .full → s.stepIdx.toNat ∈ [0, 1, 2, 3]) ∧ s.halted = false ∧
    s.params = p ∧ ∃ t, step s = .next t
end

