-- ==== Sys2Proof/Laws/Encoding.lean ====
section
/-! SUPPORT. The packing of a command word and its parts, bit by bit. -/

namespace Sys2Proof

theorem packCommand_getLsbD (op : BitVec 4) (arg : Word) (k : Nat) :
    (packCommand op arg).getLsbD k = if k < 32 then arg.getLsbD k else op.getLsbD (k - 32) :=
  BitVec.getLsbD_append

@[simp] theorem opOf_packCommand (op : BitVec 4) (arg : Word) : opOf (packCommand op arg) = op := by
  apply BitVec.eq_of_getLsbD_eq
  intro k hk
  rw [opOf, BitVec.getLsbD_extractLsb', packCommand_getLsbD]
  simp [hk]

@[simp] theorem argOf_packCommand (op : BitVec 4) (arg : Word) : argOf (packCommand op arg) = arg := by
  apply BitVec.eq_of_getLsbD_eq
  intro k hk
  rw [argOf, BitVec.getLsbD_extractLsb', packCommand_getLsbD]
  simp [hk]

theorem packCommand_opOf_argOf (cw : CommandWord) : packCommand (opOf cw) (argOf cw) = cw := by
  apply BitVec.eq_of_getLsbD_eq
  intro k hk
  rw [packCommand_getLsbD, opOf, argOf, BitVec.getLsbD_extractLsb', BitVec.getLsbD_extractLsb']
  by_cases h : k < 32
  · simp [h]
  · have h4 : k - 32 < 4 := by omega
    have hk' : 32 + (k - 32) = k := by omega
    simp [h, h4, hk']

/-- The packing of a masked word. -/
theorem packCommand_and (op op' : BitVec 4) (arg arg' : Word) :
    packCommand op arg &&& packCommand op' arg' = packCommand (op &&& op') (arg &&& arg') := by
  apply BitVec.eq_of_getLsbD_eq
  intro k _
  rw [BitVec.getLsbD_and]
  simp only [packCommand_getLsbD]
  split <;> simp

/-- An opcode's row keeps the four opcode bits of a command word and nothing else. -/
theorem packCommand_and_opcodeMask (op : BitVec 4) (arg : Word) :
    packCommand op arg &&& 0xF00000000#36 = packCommand op 0#32 := by
  have hmask : (0xF00000000#36 : CommandWord) = packCommand 0xF#4 0#32 := by decide
  have hop : op &&& 0xF#4 = op := by revert op; decide
  rw [hmask, packCommand_and, hop, BitVec.and_zero]

/-- The format B row keeps every bit but the operand bit. -/
theorem packCommand_and_bitMask (op : BitVec 4) (arg : Word) (h : arg.extractLsb' 1 31 = 0#31) :
    packCommand op arg &&& 0xFFFFFFFFE#36 = packCommand op 0#32 := by
  have hmask : (0xFFFFFFFFE#36 : CommandWord) = packCommand 0xF#4 0xFFFFFFFE#32 := by decide
  have hop : op &&& 0xF#4 = op := by revert op; decide
  have harg : arg &&& 0xFFFFFFFE#32 = 0#32 := by
    apply BitVec.eq_of_getLsbD_eq
    intro k hk
    cases k with
    | zero => simp
    | succ j =>
      have hj := congrArg (fun v => v.getLsbD j) h
      have hj31 : j < 31 := by omega
      simp only [BitVec.getLsbD_extractLsb', hj31, decide_true, Bool.true_and, BitVec.getLsbD_zero,
        Nat.add_comm 1 j] at hj
      simp [hj]
  rw [hmask, packCommand_and, hop, harg]

end Sys2Proof
end

