-- ==== Sys2Proof/Laws/State.lean ====
section
/-! SUPPORT. One lemma per field per named update of State (Machine/Ops.lean), so that no proof unfolds an update. -/

namespace Sys2Proof.Machine

/-! ### writeResponse -/

@[simp] theorem writeResponse_target (status : Status) (data : Word) (s : State) : (writeResponse status data s).target = s.target := rfl
@[simp] theorem writeResponse_current (status : Status) (data : Word) (s : State) : (writeResponse status data s).current = s.current := rfl
@[simp] theorem writeResponse_dir (status : Status) (data : Word) (s : State) : (writeResponse status data s).dir = s.dir := rfl
@[simp] theorem writeResponse_mode (status : Status) (data : Word) (s : State) : (writeResponse status data s).mode = s.mode := rfl
@[simp] theorem writeResponse_cmdPeriod (status : Status) (data : Word) (s : State) : (writeResponse status data s).cmdPeriod = s.cmdPeriod := rfl
@[simp] theorem writeResponse_effPeriod (status : Status) (data : Word) (s : State) : (writeResponse status data s).effPeriod = s.effPeriod := rfl
@[simp] theorem writeResponse_tickCount (status : Status) (data : Word) (s : State) : (writeResponse status data s).tickCount = s.tickCount := rfl
@[simp] theorem writeResponse_stepIdx (status : Status) (data : Word) (s : State) : (writeResponse status data s).stepIdx = s.stepIdx := rfl
@[simp] theorem writeResponse_coil (status : Status) (data : Word) (s : State) : (writeResponse status data s).coil = s.coil := rfl
@[simp] theorem writeResponse_coilWe (status : Status) (data : Word) (s : State) : (writeResponse status data s).coilWe = s.coilWe := rfl
@[simp] theorem writeResponse_cmpLoad (status : Status) (data : Word) (s : State) : (writeResponse status data s).cmpLoad = s.cmpLoad := rfl
@[simp] theorem writeResponse_started (status : Status) (data : Word) (s : State) : (writeResponse status data s).started = s.started := rfl
@[simp] theorem writeResponse_ovfWarn (status : Status) (data : Word) (s : State) : (writeResponse status data s).ovfWarn = s.ovfWarn := rfl
@[simp] theorem writeResponse_halted (status : Status) (data : Word) (s : State) : (writeResponse status data s).halted = s.halted := rfl
@[simp] theorem writeResponse_rspValid (status : Status) (data : Word) (s : State) : (writeResponse status data s).rspValid = true := rfl
@[simp] theorem writeResponse_rspStatus (status : Status) (data : Word) (s : State) : (writeResponse status data s).rspStatus = status.code := rfl
@[simp] theorem writeResponse_rspData (status : Status) (data : Word) (s : State) : (writeResponse status data s).rspData = data := rfl
@[simp] theorem writeResponse_params (status : Status) (data : Word) (s : State) : (writeResponse status data s).params = s.params := rfl
@[simp] theorem writeResponse_attached (status : Status) (data : Word) (s : State) : (writeResponse status data s).attached = s.attached := rfl
@[simp] theorem writeResponse_edges (status : Status) (data : Word) (s : State) : (writeResponse status data s).edges = s.edges := rfl

/-! ### acceptCommand -/

@[simp] theorem acceptCommand_target (s : State) : (acceptCommand s).target = s.target := rfl
@[simp] theorem acceptCommand_current (s : State) : (acceptCommand s).current = s.current := rfl
@[simp] theorem acceptCommand_dir (s : State) : (acceptCommand s).dir = s.dir := rfl
@[simp] theorem acceptCommand_mode (s : State) : (acceptCommand s).mode = s.mode := rfl
@[simp] theorem acceptCommand_cmdPeriod (s : State) : (acceptCommand s).cmdPeriod = s.cmdPeriod := rfl
@[simp] theorem acceptCommand_effPeriod (s : State) : (acceptCommand s).effPeriod = s.effPeriod := rfl
@[simp] theorem acceptCommand_tickCount (s : State) : (acceptCommand s).tickCount = s.tickCount := rfl
@[simp] theorem acceptCommand_stepIdx (s : State) : (acceptCommand s).stepIdx = s.stepIdx := rfl
@[simp] theorem acceptCommand_coil (s : State) : (acceptCommand s).coil = s.coil := rfl
@[simp] theorem acceptCommand_coilWe (s : State) : (acceptCommand s).coilWe = s.coilWe := rfl
@[simp] theorem acceptCommand_cmpLoad (s : State) : (acceptCommand s).cmpLoad = s.cmpLoad := rfl
@[simp] theorem acceptCommand_started (s : State) : (acceptCommand s).started = s.started := rfl
@[simp] theorem acceptCommand_ovfWarn (s : State) : (acceptCommand s).ovfWarn = s.ovfWarn := rfl
@[simp] theorem acceptCommand_halted (s : State) : (acceptCommand s).halted = s.halted := rfl
@[simp] theorem acceptCommand_rspValid (s : State) : (acceptCommand s).rspValid = true := rfl
@[simp] theorem acceptCommand_rspStatus (s : State) : (acceptCommand s).rspStatus = 0#2 := rfl
@[simp] theorem acceptCommand_rspData (s : State) : (acceptCommand s).rspData = 0#32 := rfl
@[simp] theorem acceptCommand_params (s : State) : (acceptCommand s).params = s.params := rfl
@[simp] theorem acceptCommand_attached (s : State) : (acceptCommand s).attached = s.attached := rfl
@[simp] theorem acceptCommand_edges (s : State) : (acceptCommand s).edges = s.edges := rfl

/-! ### respond -/

@[simp] theorem respond_target (data : Word) (s : State) : (respond data s).target = s.target := rfl
@[simp] theorem respond_current (data : Word) (s : State) : (respond data s).current = s.current := rfl
@[simp] theorem respond_dir (data : Word) (s : State) : (respond data s).dir = s.dir := rfl
@[simp] theorem respond_mode (data : Word) (s : State) : (respond data s).mode = s.mode := rfl
@[simp] theorem respond_cmdPeriod (data : Word) (s : State) : (respond data s).cmdPeriod = s.cmdPeriod := rfl
@[simp] theorem respond_effPeriod (data : Word) (s : State) : (respond data s).effPeriod = s.effPeriod := rfl
@[simp] theorem respond_tickCount (data : Word) (s : State) : (respond data s).tickCount = s.tickCount := rfl
@[simp] theorem respond_stepIdx (data : Word) (s : State) : (respond data s).stepIdx = s.stepIdx := rfl
@[simp] theorem respond_coil (data : Word) (s : State) : (respond data s).coil = s.coil := rfl
@[simp] theorem respond_coilWe (data : Word) (s : State) : (respond data s).coilWe = s.coilWe := rfl
@[simp] theorem respond_cmpLoad (data : Word) (s : State) : (respond data s).cmpLoad = s.cmpLoad := rfl
@[simp] theorem respond_started (data : Word) (s : State) : (respond data s).started = s.started := rfl
@[simp] theorem respond_ovfWarn (data : Word) (s : State) : (respond data s).ovfWarn = s.ovfWarn := rfl
@[simp] theorem respond_halted (data : Word) (s : State) : (respond data s).halted = s.halted := rfl
@[simp] theorem respond_rspValid (data : Word) (s : State) : (respond data s).rspValid = true := rfl
@[simp] theorem respond_rspStatus (data : Word) (s : State) : (respond data s).rspStatus = 0#2 := rfl
@[simp] theorem respond_rspData (data : Word) (s : State) : (respond data s).rspData = data := rfl
@[simp] theorem respond_params (data : Word) (s : State) : (respond data s).params = s.params := rfl
@[simp] theorem respond_attached (data : Word) (s : State) : (respond data s).attached = s.attached := rfl
@[simp] theorem respond_edges (data : Word) (s : State) : (respond data s).edges = s.edges := rfl

/-! ### raiseStatus -/

@[simp] theorem raiseStatus_target (status : Status) (s : State) : (raiseStatus status s).target = s.target := rfl
@[simp] theorem raiseStatus_current (status : Status) (s : State) : (raiseStatus status s).current = s.current := rfl
@[simp] theorem raiseStatus_dir (status : Status) (s : State) : (raiseStatus status s).dir = s.dir := rfl
@[simp] theorem raiseStatus_mode (status : Status) (s : State) : (raiseStatus status s).mode = s.mode := rfl
@[simp] theorem raiseStatus_cmdPeriod (status : Status) (s : State) : (raiseStatus status s).cmdPeriod = s.cmdPeriod := rfl
@[simp] theorem raiseStatus_effPeriod (status : Status) (s : State) : (raiseStatus status s).effPeriod = s.effPeriod := rfl
@[simp] theorem raiseStatus_tickCount (status : Status) (s : State) : (raiseStatus status s).tickCount = s.tickCount := rfl
@[simp] theorem raiseStatus_stepIdx (status : Status) (s : State) : (raiseStatus status s).stepIdx = s.stepIdx := rfl
@[simp] theorem raiseStatus_coil (status : Status) (s : State) : (raiseStatus status s).coil = s.coil := rfl
@[simp] theorem raiseStatus_coilWe (status : Status) (s : State) : (raiseStatus status s).coilWe = s.coilWe := rfl
@[simp] theorem raiseStatus_cmpLoad (status : Status) (s : State) : (raiseStatus status s).cmpLoad = s.cmpLoad := rfl
@[simp] theorem raiseStatus_started (status : Status) (s : State) : (raiseStatus status s).started = s.started := rfl
@[simp] theorem raiseStatus_ovfWarn (status : Status) (s : State) : (raiseStatus status s).ovfWarn = s.ovfWarn := rfl
@[simp] theorem raiseStatus_halted (status : Status) (s : State) : (raiseStatus status s).halted = s.halted := rfl
@[simp] theorem raiseStatus_rspValid (status : Status) (s : State) : (raiseStatus status s).rspValid = true := rfl
@[simp] theorem raiseStatus_rspStatus (status : Status) (s : State) : (raiseStatus status s).rspStatus = status.code := rfl
@[simp] theorem raiseStatus_rspData (status : Status) (s : State) : (raiseStatus status s).rspData = 0#32 := rfl
@[simp] theorem raiseStatus_params (status : Status) (s : State) : (raiseStatus status s).params = s.params := rfl
@[simp] theorem raiseStatus_attached (status : Status) (s : State) : (raiseStatus status s).attached = s.attached := rfl
@[simp] theorem raiseStatus_edges (status : Status) (s : State) : (raiseStatus status s).edges = s.edges := rfl

/-! ### addTarget -/

@[simp] theorem addTarget_target (a : Nat) (s : State) : (addTarget a s).target = wrap s.params.stepW (s.target.toNat + a) := rfl
@[simp] theorem addTarget_current (a : Nat) (s : State) : (addTarget a s).current = s.current := rfl
@[simp] theorem addTarget_dir (a : Nat) (s : State) : (addTarget a s).dir = s.dir := rfl
@[simp] theorem addTarget_mode (a : Nat) (s : State) : (addTarget a s).mode = s.mode := rfl
@[simp] theorem addTarget_cmdPeriod (a : Nat) (s : State) : (addTarget a s).cmdPeriod = s.cmdPeriod := rfl
@[simp] theorem addTarget_effPeriod (a : Nat) (s : State) : (addTarget a s).effPeriod = s.effPeriod := rfl
@[simp] theorem addTarget_tickCount (a : Nat) (s : State) : (addTarget a s).tickCount = s.tickCount := rfl
@[simp] theorem addTarget_stepIdx (a : Nat) (s : State) : (addTarget a s).stepIdx = s.stepIdx := rfl
@[simp] theorem addTarget_coil (a : Nat) (s : State) : (addTarget a s).coil = s.coil := rfl
@[simp] theorem addTarget_coilWe (a : Nat) (s : State) : (addTarget a s).coilWe = s.coilWe := rfl
@[simp] theorem addTarget_cmpLoad (a : Nat) (s : State) : (addTarget a s).cmpLoad = s.cmpLoad := rfl
@[simp] theorem addTarget_started (a : Nat) (s : State) : (addTarget a s).started = s.started := rfl
@[simp] theorem addTarget_ovfWarn (a : Nat) (s : State) : (addTarget a s).ovfWarn = (s.ovfWarn || enqueueCarries a s) := rfl
@[simp] theorem addTarget_halted (a : Nat) (s : State) : (addTarget a s).halted = s.halted := rfl
@[simp] theorem addTarget_rspValid (a : Nat) (s : State) : (addTarget a s).rspValid = s.rspValid := rfl
@[simp] theorem addTarget_rspStatus (a : Nat) (s : State) : (addTarget a s).rspStatus = s.rspStatus := rfl
@[simp] theorem addTarget_rspData (a : Nat) (s : State) : (addTarget a s).rspData = s.rspData := rfl
@[simp] theorem addTarget_params (a : Nat) (s : State) : (addTarget a s).params = s.params := rfl
@[simp] theorem addTarget_attached (a : Nat) (s : State) : (addTarget a s).attached = s.attached := rfl
@[simp] theorem addTarget_edges (a : Nat) (s : State) : (addTarget a s).edges = s.edges := rfl

/-! ### changeMode -/

@[simp] theorem changeMode_target (m : Mode) (s : State) : (changeMode m s).target = s.target := rfl
@[simp] theorem changeMode_current (m : Mode) (s : State) : (changeMode m s).current = s.current := rfl
@[simp] theorem changeMode_dir (m : Mode) (s : State) : (changeMode m s).dir = s.dir := rfl
@[simp] theorem changeMode_mode (m : Mode) (s : State) : (changeMode m s).mode = m := rfl
@[simp] theorem changeMode_cmdPeriod (m : Mode) (s : State) : (changeMode m s).cmdPeriod = s.cmdPeriod := rfl
@[simp] theorem changeMode_effPeriod (m : Mode) (s : State) : (changeMode m s).effPeriod = s.effPeriod := rfl
@[simp] theorem changeMode_tickCount (m : Mode) (s : State) : (changeMode m s).tickCount = s.tickCount := rfl
@[simp] theorem changeMode_stepIdx (m : Mode) (s : State) : (changeMode m s).stepIdx = clampIndex m s.stepIdx := rfl
@[simp] theorem changeMode_coil (m : Mode) (s : State) : (changeMode m s).coil = s.coil := rfl
@[simp] theorem changeMode_coilWe (m : Mode) (s : State) : (changeMode m s).coilWe = s.coilWe := rfl
@[simp] theorem changeMode_cmpLoad (m : Mode) (s : State) : (changeMode m s).cmpLoad = s.cmpLoad := rfl
@[simp] theorem changeMode_started (m : Mode) (s : State) : (changeMode m s).started = s.started := rfl
@[simp] theorem changeMode_ovfWarn (m : Mode) (s : State) : (changeMode m s).ovfWarn = s.ovfWarn := rfl
@[simp] theorem changeMode_halted (m : Mode) (s : State) : (changeMode m s).halted = s.halted := rfl
@[simp] theorem changeMode_rspValid (m : Mode) (s : State) : (changeMode m s).rspValid = s.rspValid := rfl
@[simp] theorem changeMode_rspStatus (m : Mode) (s : State) : (changeMode m s).rspStatus = s.rspStatus := rfl
@[simp] theorem changeMode_rspData (m : Mode) (s : State) : (changeMode m s).rspData = s.rspData := rfl
@[simp] theorem changeMode_params (m : Mode) (s : State) : (changeMode m s).params = s.params := rfl
@[simp] theorem changeMode_attached (m : Mode) (s : State) : (changeMode m s).attached = s.attached := rfl
@[simp] theorem changeMode_edges (m : Mode) (s : State) : (changeMode m s).edges = s.edges := rfl

/-! ### commandPeriod -/

@[simp] theorem commandPeriod_target (period : Word) (s : State) : (commandPeriod period s).target = s.target := rfl
@[simp] theorem commandPeriod_current (period : Word) (s : State) : (commandPeriod period s).current = s.current := rfl
@[simp] theorem commandPeriod_dir (period : Word) (s : State) : (commandPeriod period s).dir = s.dir := rfl
@[simp] theorem commandPeriod_mode (period : Word) (s : State) : (commandPeriod period s).mode = s.mode := rfl
@[simp] theorem commandPeriod_cmdPeriod (period : Word) (s : State) : (commandPeriod period s).cmdPeriod = period := rfl
@[simp] theorem commandPeriod_effPeriod (period : Word) (s : State) : (commandPeriod period s).effPeriod = s.effPeriod := rfl
@[simp] theorem commandPeriod_tickCount (period : Word) (s : State) : (commandPeriod period s).tickCount = s.tickCount := rfl
@[simp] theorem commandPeriod_stepIdx (period : Word) (s : State) : (commandPeriod period s).stepIdx = s.stepIdx := rfl
@[simp] theorem commandPeriod_coil (period : Word) (s : State) : (commandPeriod period s).coil = s.coil := rfl
@[simp] theorem commandPeriod_coilWe (period : Word) (s : State) : (commandPeriod period s).coilWe = s.coilWe := rfl
@[simp] theorem commandPeriod_cmpLoad (period : Word) (s : State) : (commandPeriod period s).cmpLoad = s.cmpLoad := rfl
@[simp] theorem commandPeriod_started (period : Word) (s : State) : (commandPeriod period s).started = s.started := rfl
@[simp] theorem commandPeriod_ovfWarn (period : Word) (s : State) : (commandPeriod period s).ovfWarn = s.ovfWarn := rfl
@[simp] theorem commandPeriod_halted (period : Word) (s : State) : (commandPeriod period s).halted = s.halted := rfl
@[simp] theorem commandPeriod_rspValid (period : Word) (s : State) : (commandPeriod period s).rspValid = s.rspValid := rfl
@[simp] theorem commandPeriod_rspStatus (period : Word) (s : State) : (commandPeriod period s).rspStatus = s.rspStatus := rfl
@[simp] theorem commandPeriod_rspData (period : Word) (s : State) : (commandPeriod period s).rspData = s.rspData := rfl
@[simp] theorem commandPeriod_params (period : Word) (s : State) : (commandPeriod period s).params = s.params := rfl
@[simp] theorem commandPeriod_attached (period : Word) (s : State) : (commandPeriod period s).attached = s.attached := rfl
@[simp] theorem commandPeriod_edges (period : Word) (s : State) : (commandPeriod period s).edges = s.edges := rfl

/-! ### countTick -/

@[simp] theorem countTick_target (s : State) : (countTick s).target = s.target := rfl
@[simp] theorem countTick_current (s : State) : (countTick s).current = s.current := rfl
@[simp] theorem countTick_dir (s : State) : (countTick s).dir = s.dir := rfl
@[simp] theorem countTick_mode (s : State) : (countTick s).mode = s.mode := rfl
@[simp] theorem countTick_cmdPeriod (s : State) : (countTick s).cmdPeriod = s.cmdPeriod := rfl
@[simp] theorem countTick_effPeriod (s : State) : (countTick s).effPeriod = s.effPeriod := rfl
@[simp] theorem countTick_tickCount (s : State) : (countTick s).tickCount = wrap s.params.tickW (s.tickCount.toNat + 1) := rfl
@[simp] theorem countTick_stepIdx (s : State) : (countTick s).stepIdx = s.stepIdx := rfl
@[simp] theorem countTick_coil (s : State) : (countTick s).coil = s.coil := rfl
@[simp] theorem countTick_coilWe (s : State) : (countTick s).coilWe = s.coilWe := rfl
@[simp] theorem countTick_cmpLoad (s : State) : (countTick s).cmpLoad = s.cmpLoad := rfl
@[simp] theorem countTick_started (s : State) : (countTick s).started = s.started := rfl
@[simp] theorem countTick_ovfWarn (s : State) : (countTick s).ovfWarn = s.ovfWarn := rfl
@[simp] theorem countTick_halted (s : State) : (countTick s).halted = s.halted := rfl
@[simp] theorem countTick_rspValid (s : State) : (countTick s).rspValid = s.rspValid := rfl
@[simp] theorem countTick_rspStatus (s : State) : (countTick s).rspStatus = s.rspStatus := rfl
@[simp] theorem countTick_rspData (s : State) : (countTick s).rspData = s.rspData := rfl
@[simp] theorem countTick_params (s : State) : (countTick s).params = s.params := rfl
@[simp] theorem countTick_attached (s : State) : (countTick s).attached = s.attached := rfl
@[simp] theorem countTick_edges (s : State) : (countTick s).edges = s.edges := rfl

/-! ### emitStep -/

@[simp] theorem emitStep_target (i : BitVec 3) (pattern : BitVec 4) (s : State) : (emitStep i pattern s).target = s.target := rfl
@[simp] theorem emitStep_current (i : BitVec 3) (pattern : BitVec 4) (s : State) : (emitStep i pattern s).current = wrap s.params.stepW (s.current.toNat + 1) := rfl
@[simp] theorem emitStep_dir (i : BitVec 3) (pattern : BitVec 4) (s : State) : (emitStep i pattern s).dir = s.dir := rfl
@[simp] theorem emitStep_mode (i : BitVec 3) (pattern : BitVec 4) (s : State) : (emitStep i pattern s).mode = s.mode := rfl
@[simp] theorem emitStep_cmdPeriod (i : BitVec 3) (pattern : BitVec 4) (s : State) : (emitStep i pattern s).cmdPeriod = s.cmdPeriod := rfl
@[simp] theorem emitStep_effPeriod (i : BitVec 3) (pattern : BitVec 4) (s : State) : (emitStep i pattern s).effPeriod = s.effPeriod := rfl
@[simp] theorem emitStep_tickCount (i : BitVec 3) (pattern : BitVec 4) (s : State) : (emitStep i pattern s).tickCount = s.tickCount := rfl
@[simp] theorem emitStep_stepIdx (i : BitVec 3) (pattern : BitVec 4) (s : State) : (emitStep i pattern s).stepIdx = i := rfl
@[simp] theorem emitStep_coil (i : BitVec 3) (pattern : BitVec 4) (s : State) : (emitStep i pattern s).coil = pattern := rfl
@[simp] theorem emitStep_coilWe (i : BitVec 3) (pattern : BitVec 4) (s : State) : (emitStep i pattern s).coilWe = true := rfl
@[simp] theorem emitStep_cmpLoad (i : BitVec 3) (pattern : BitVec 4) (s : State) : (emitStep i pattern s).cmpLoad = s.cmpLoad := rfl
@[simp] theorem emitStep_started (i : BitVec 3) (pattern : BitVec 4) (s : State) : (emitStep i pattern s).started = s.started := rfl
@[simp] theorem emitStep_ovfWarn (i : BitVec 3) (pattern : BitVec 4) (s : State) : (emitStep i pattern s).ovfWarn = (s.ovfWarn || currentWraps s) := rfl
@[simp] theorem emitStep_halted (i : BitVec 3) (pattern : BitVec 4) (s : State) : (emitStep i pattern s).halted = s.halted := rfl
@[simp] theorem emitStep_rspValid (i : BitVec 3) (pattern : BitVec 4) (s : State) : (emitStep i pattern s).rspValid = s.rspValid := rfl
@[simp] theorem emitStep_rspStatus (i : BitVec 3) (pattern : BitVec 4) (s : State) : (emitStep i pattern s).rspStatus = s.rspStatus := rfl
@[simp] theorem emitStep_rspData (i : BitVec 3) (pattern : BitVec 4) (s : State) : (emitStep i pattern s).rspData = s.rspData := rfl
@[simp] theorem emitStep_params (i : BitVec 3) (pattern : BitVec 4) (s : State) : (emitStep i pattern s).params = s.params := rfl
@[simp] theorem emitStep_attached (i : BitVec 3) (pattern : BitVec 4) (s : State) : (emitStep i pattern s).attached = s.attached := rfl
@[simp] theorem emitStep_edges (i : BitVec 3) (pattern : BitVec 4) (s : State) : (emitStep i pattern s).edges = s.edges := rfl

/-! ### popEdge -/

@[simp] theorem popEdge_target (s : State) : (popEdge s).target = s.target := rfl
@[simp] theorem popEdge_current (s : State) : (popEdge s).current = s.current := rfl
@[simp] theorem popEdge_dir (s : State) : (popEdge s).dir = s.dir := rfl
@[simp] theorem popEdge_mode (s : State) : (popEdge s).mode = s.mode := rfl
@[simp] theorem popEdge_cmdPeriod (s : State) : (popEdge s).cmdPeriod = s.cmdPeriod := rfl
@[simp] theorem popEdge_effPeriod (s : State) : (popEdge s).effPeriod = s.effPeriod := rfl
@[simp] theorem popEdge_tickCount (s : State) : (popEdge s).tickCount = s.tickCount := rfl
@[simp] theorem popEdge_stepIdx (s : State) : (popEdge s).stepIdx = s.stepIdx := rfl
@[simp] theorem popEdge_coil (s : State) : (popEdge s).coil = s.coil := rfl
@[simp] theorem popEdge_coilWe (s : State) : (popEdge s).coilWe = s.coilWe := rfl
@[simp] theorem popEdge_cmpLoad (s : State) : (popEdge s).cmpLoad = s.cmpLoad := rfl
@[simp] theorem popEdge_started (s : State) : (popEdge s).started = s.started := rfl
@[simp] theorem popEdge_ovfWarn (s : State) : (popEdge s).ovfWarn = s.ovfWarn := rfl
@[simp] theorem popEdge_halted (s : State) : (popEdge s).halted = s.halted := rfl
@[simp] theorem popEdge_rspValid (s : State) : (popEdge s).rspValid = s.rspValid := rfl
@[simp] theorem popEdge_rspStatus (s : State) : (popEdge s).rspStatus = s.rspStatus := rfl
@[simp] theorem popEdge_rspData (s : State) : (popEdge s).rspData = s.rspData := rfl
@[simp] theorem popEdge_params (s : State) : (popEdge s).params = s.params := rfl
@[simp] theorem popEdge_attached (s : State) : (popEdge s).attached = s.attached := rfl
@[simp] theorem popEdge_edges (s : State) : (popEdge s).edges = s.edges.tail := rfl

/-! ### beginEdge -/

@[simp] theorem beginEdge_target (s : State) : (beginEdge s).target = s.target := rfl
@[simp] theorem beginEdge_current (s : State) : (beginEdge s).current = s.current := rfl
@[simp] theorem beginEdge_dir (s : State) : (beginEdge s).dir = s.dir := rfl
@[simp] theorem beginEdge_mode (s : State) : (beginEdge s).mode = s.mode := rfl
@[simp] theorem beginEdge_cmdPeriod (s : State) : (beginEdge s).cmdPeriod = s.cmdPeriod := rfl
@[simp] theorem beginEdge_effPeriod (s : State) : (beginEdge s).effPeriod = s.effPeriod := rfl
@[simp] theorem beginEdge_tickCount (s : State) : (beginEdge s).tickCount = s.tickCount := rfl
@[simp] theorem beginEdge_stepIdx (s : State) : (beginEdge s).stepIdx = s.stepIdx := rfl
@[simp] theorem beginEdge_coil (s : State) : (beginEdge s).coil = s.coil := rfl
@[simp] theorem beginEdge_coilWe (s : State) : (beginEdge s).coilWe = false := rfl
@[simp] theorem beginEdge_cmpLoad (s : State) : (beginEdge s).cmpLoad = !s.started := rfl
@[simp] theorem beginEdge_started (s : State) : (beginEdge s).started = true := rfl
@[simp] theorem beginEdge_ovfWarn (s : State) : (beginEdge s).ovfWarn = s.ovfWarn := rfl
@[simp] theorem beginEdge_halted (s : State) : (beginEdge s).halted = s.halted := rfl
@[simp] theorem beginEdge_rspValid (s : State) : (beginEdge s).rspValid = false := rfl
@[simp] theorem beginEdge_rspStatus (s : State) : (beginEdge s).rspStatus = s.rspStatus := rfl
@[simp] theorem beginEdge_rspData (s : State) : (beginEdge s).rspData = s.rspData := rfl
@[simp] theorem beginEdge_params (s : State) : (beginEdge s).params = s.params := rfl
@[simp] theorem beginEdge_attached (s : State) : (beginEdge s).attached = s.attached := rfl
@[simp] theorem beginEdge_edges (s : State) : (beginEdge s).edges = s.edges := rfl

/-! ### changeDirection -/

@[simp] theorem changeDirection_target (d : Direction) (s : State) :
    (changeDirection d s).target = s.target := by
  unfold changeDirection; split <;> rfl
@[simp] theorem changeDirection_current (d : Direction) (s : State) :
    (changeDirection d s).current = if d = s.dir then s.current else s.target := by
  unfold changeDirection; split <;> rfl
@[simp] theorem changeDirection_dir (d : Direction) (s : State) :
    (changeDirection d s).dir = d := by
  unfold changeDirection; split <;> simp_all
@[simp] theorem changeDirection_mode (d : Direction) (s : State) :
    (changeDirection d s).mode = s.mode := by
  unfold changeDirection; split <;> rfl
@[simp] theorem changeDirection_cmdPeriod (d : Direction) (s : State) :
    (changeDirection d s).cmdPeriod = s.cmdPeriod := by
  unfold changeDirection; split <;> rfl
@[simp] theorem changeDirection_effPeriod (d : Direction) (s : State) :
    (changeDirection d s).effPeriod = s.effPeriod := by
  unfold changeDirection; split <;> rfl
@[simp] theorem changeDirection_tickCount (d : Direction) (s : State) :
    (changeDirection d s).tickCount = s.tickCount := by
  unfold changeDirection; split <;> rfl
@[simp] theorem changeDirection_stepIdx (d : Direction) (s : State) :
    (changeDirection d s).stepIdx = s.stepIdx := by
  unfold changeDirection; split <;> rfl
@[simp] theorem changeDirection_coil (d : Direction) (s : State) :
    (changeDirection d s).coil = s.coil := by
  unfold changeDirection; split <;> rfl
@[simp] theorem changeDirection_coilWe (d : Direction) (s : State) :
    (changeDirection d s).coilWe = s.coilWe := by
  unfold changeDirection; split <;> rfl
@[simp] theorem changeDirection_cmpLoad (d : Direction) (s : State) :
    (changeDirection d s).cmpLoad = s.cmpLoad := by
  unfold changeDirection; split <;> rfl
@[simp] theorem changeDirection_started (d : Direction) (s : State) :
    (changeDirection d s).started = s.started := by
  unfold changeDirection; split <;> rfl
@[simp] theorem changeDirection_ovfWarn (d : Direction) (s : State) :
    (changeDirection d s).ovfWarn = s.ovfWarn := by
  unfold changeDirection; split <;> rfl
@[simp] theorem changeDirection_halted (d : Direction) (s : State) :
    (changeDirection d s).halted = s.halted := by
  unfold changeDirection; split <;> rfl
@[simp] theorem changeDirection_rspValid (d : Direction) (s : State) :
    (changeDirection d s).rspValid = s.rspValid := by
  unfold changeDirection; split <;> rfl
@[simp] theorem changeDirection_rspStatus (d : Direction) (s : State) :
    (changeDirection d s).rspStatus = s.rspStatus := by
  unfold changeDirection; split <;> rfl
@[simp] theorem changeDirection_rspData (d : Direction) (s : State) :
    (changeDirection d s).rspData = s.rspData := by
  unfold changeDirection; split <;> rfl
@[simp] theorem changeDirection_params (d : Direction) (s : State) :
    (changeDirection d s).params = s.params := by
  unfold changeDirection; split <;> rfl
@[simp] theorem changeDirection_attached (d : Direction) (s : State) :
    (changeDirection d s).attached = s.attached := by
  unfold changeDirection; split <;> rfl
@[simp] theorem changeDirection_edges (d : Direction) (s : State) :
    (changeDirection d s).edges = s.edges := by
  unfold changeDirection; split <;> rfl

/-! ### adoptPeriod -/

@[simp] theorem adoptPeriod_target (s : State) : (adoptPeriod s).target = s.target := by
  unfold adoptPeriod; split <;> rfl
@[simp] theorem adoptPeriod_current (s : State) : (adoptPeriod s).current = s.current := by
  unfold adoptPeriod; split <;> rfl
@[simp] theorem adoptPeriod_dir (s : State) : (adoptPeriod s).dir = s.dir := by
  unfold adoptPeriod; split <;> rfl
@[simp] theorem adoptPeriod_mode (s : State) : (adoptPeriod s).mode = s.mode := by
  unfold adoptPeriod; split <;> rfl
@[simp] theorem adoptPeriod_cmdPeriod (s : State) : (adoptPeriod s).cmdPeriod = s.cmdPeriod := by
  unfold adoptPeriod; split <;> rfl
@[simp] theorem adoptPeriod_effPeriod (s : State) : (adoptPeriod s).effPeriod = s.cmdPeriod := by
  unfold adoptPeriod speedChangePending; split <;> simp_all
@[simp] theorem adoptPeriod_tickCount (s : State) : (adoptPeriod s).tickCount = s.tickCount := by
  unfold adoptPeriod; split <;> rfl
@[simp] theorem adoptPeriod_stepIdx (s : State) : (adoptPeriod s).stepIdx = s.stepIdx := by
  unfold adoptPeriod; split <;> rfl
@[simp] theorem adoptPeriod_coil (s : State) : (adoptPeriod s).coil = s.coil := by
  unfold adoptPeriod; split <;> rfl
@[simp] theorem adoptPeriod_coilWe (s : State) : (adoptPeriod s).coilWe = s.coilWe := by
  unfold adoptPeriod; split <;> rfl
@[simp] theorem adoptPeriod_cmpLoad (s : State) : (adoptPeriod s).cmpLoad = (s.cmpLoad || speedChangePending s) := by
  unfold adoptPeriod; split <;> simp_all
@[simp] theorem adoptPeriod_started (s : State) : (adoptPeriod s).started = s.started := by
  unfold adoptPeriod; split <;> rfl
@[simp] theorem adoptPeriod_ovfWarn (s : State) : (adoptPeriod s).ovfWarn = s.ovfWarn := by
  unfold adoptPeriod; split <;> rfl
@[simp] theorem adoptPeriod_halted (s : State) : (adoptPeriod s).halted = s.halted := by
  unfold adoptPeriod; split <;> rfl
@[simp] theorem adoptPeriod_rspValid (s : State) : (adoptPeriod s).rspValid = s.rspValid := by
  unfold adoptPeriod; split <;> rfl
@[simp] theorem adoptPeriod_rspStatus (s : State) : (adoptPeriod s).rspStatus = s.rspStatus := by
  unfold adoptPeriod; split <;> rfl
@[simp] theorem adoptPeriod_rspData (s : State) : (adoptPeriod s).rspData = s.rspData := by
  unfold adoptPeriod; split <;> rfl
@[simp] theorem adoptPeriod_params (s : State) : (adoptPeriod s).params = s.params := by
  unfold adoptPeriod; split <;> rfl
@[simp] theorem adoptPeriod_attached (s : State) : (adoptPeriod s).attached = s.attached := by
  unfold adoptPeriod; split <;> rfl
@[simp] theorem adoptPeriod_edges (s : State) : (adoptPeriod s).edges = s.edges := by
  unfold adoptPeriod; split <;> rfl

/-! ### resetEdge -/

@[simp] theorem resetEdge_target (s : State) : (resetEdge s).target = 0#32 := rfl
@[simp] theorem resetEdge_current (s : State) : (resetEdge s).current = 0#32 := rfl
@[simp] theorem resetEdge_dir (s : State) : (resetEdge s).dir = .forward := rfl
@[simp] theorem resetEdge_mode (s : State) : (resetEdge s).mode = .half := rfl
@[simp] theorem resetEdge_cmdPeriod (s : State) : (resetEdge s).cmdPeriod = s.params.initPeriod := rfl
@[simp] theorem resetEdge_effPeriod (s : State) : (resetEdge s).effPeriod = s.params.initPeriod := rfl
@[simp] theorem resetEdge_tickCount (s : State) : (resetEdge s).tickCount = 0#32 := rfl
@[simp] theorem resetEdge_stepIdx (s : State) : (resetEdge s).stepIdx = 0#3 := rfl
@[simp] theorem resetEdge_coil (s : State) : (resetEdge s).coil = 0#4 := rfl
@[simp] theorem resetEdge_coilWe (s : State) : (resetEdge s).coilWe = false := rfl
@[simp] theorem resetEdge_cmpLoad (s : State) : (resetEdge s).cmpLoad = false := rfl
@[simp] theorem resetEdge_started (s : State) : (resetEdge s).started = false := rfl
@[simp] theorem resetEdge_ovfWarn (s : State) : (resetEdge s).ovfWarn = false := rfl
@[simp] theorem resetEdge_halted (s : State) : (resetEdge s).halted = false := rfl
@[simp] theorem resetEdge_rspValid (s : State) : (resetEdge s).rspValid = false := rfl
@[simp] theorem resetEdge_rspStatus (s : State) : (resetEdge s).rspStatus = 0#2 := rfl
@[simp] theorem resetEdge_rspData (s : State) : (resetEdge s).rspData = 0#32 := rfl
@[simp] theorem resetEdge_params (s : State) : (resetEdge s).params = s.params := rfl
@[simp] theorem resetEdge_attached (s : State) : (resetEdge s).attached = true := rfl
@[simp] theorem resetEdge_edges (s : State) : (resetEdge s).edges = s.edges := rfl

end Sys2Proof.Machine
end

