-- ==== Sys2Proof/Laws/Ops.lean ====
section
/-! SUPPORT. For each shared operation, what it can do, said once. -/

namespace Sys2Proof.Machine

/-! ### Modular arithmetic -/

theorem wrap_toNat {width : Nat} (hw : width ≤ 32) (n : Nat) : (wrap width n).toNat = n % 2 ^ width := by
  have hpos : 0 < 2 ^ width := Nat.two_pow_pos width
  have hle : 2 ^ width ≤ 2 ^ 32 := Nat.pow_le_pow_right (by decide) hw
  have hlt : n % 2 ^ width < 2 ^ width := Nat.mod_lt n hpos
  simp only [wrap, BitVec.toNat_ofNat]
  exact Nat.mod_eq_of_lt (by omega)

theorem wrap_toNat_lt {width : Nat} (hw : width ≤ 32) (n : Nat) : (wrap width n).toNat < 2 ^ width := by
  rw [wrap_toNat hw]
  exact Nat.mod_lt n (Nat.two_pow_pos width)

/-! ### The step index -/

theorem cycleLength_pos (m : Mode) : 0 < cycleLength m := by cases m <;> decide

theorem cycleLength_le (m : Mode) : cycleLength m ≤ 8 := by cases m <;> decide

theorem enqueueMultiplier_eq_cycleLength (m : Mode) : enqueueMultiplier m = cycleLength m := by cases m <;> rfl

theorem advance_forward_toNat (i : BitVec 3) (m : Mode) :
    (advance i .forward m).toNat = (i.toNat + 1) % cycleLength m := by
  have := Nat.mod_lt (i.toNat + 1) (cycleLength_pos m)
  have := cycleLength_le m
  simp only [advance, BitVec.toNat_ofNat]
  exact Nat.mod_eq_of_lt (by omega)

theorem advance_backward_toNat (i : BitVec 3) (m : Mode) :
    (advance i .backward m).toNat = (i.toNat + cycleLength m - 1) % cycleLength m := by
  have := Nat.mod_lt (i.toNat + cycleLength m - 1) (cycleLength_pos m)
  have := cycleLength_le m
  simp only [advance, BitVec.toNat_ofNat]
  exact Nat.mod_eq_of_lt (by omega)

/-- `Advance` requires nothing of its argument to answer an index in range (40_tick.md R115: "result < L(mode)"). -/
theorem advance_toNat_lt (i : BitVec 3) (d : Direction) (m : Mode) : (advance i d m).toNat < cycleLength m := by
  cases d
  · rw [advance_forward_toNat]; exact Nat.mod_lt _ (cycleLength_pos m)
  · rw [advance_backward_toNat]; exact Nat.mod_lt _ (cycleLength_pos m)

theorem clampIndex_toNat (m : Mode) (i : BitVec 3) : (clampIndex m i).toNat = i.toNat % cycleLength m := by
  have := Nat.mod_lt i.toNat (cycleLength_pos m)
  have := cycleLength_le m
  simp only [clampIndex, BitVec.toNat_ofNat]
  exact Nat.mod_eq_of_lt (by omega)

theorem clampIndex_toNat_lt (m : Mode) (i : BitVec 3) : (clampIndex m i).toNat < cycleLength m := by
  rw [clampIndex_toNat]; exact Nat.mod_lt _ (cycleLength_pos m)

/-! ### The phase ROM -/

theorem phaseRom_isSome_iff (p : Params) (m : Mode) (idx : Nat) :
    (phaseRom p m idx).isSome ↔ idx < cycleLength m := by
  cases m <;> simp [phaseRom, cycleLength]

/-- What the ROM answers is an entry of one of the two tables. -/
theorem phaseRom_mem {p : Params} {m : Mode} {idx : Nat} {pattern : BitVec 4} (h : phaseRom p m idx = some pattern) :
    pattern ∈ p.phaseHalf.toList ∨ pattern ∈ p.phaseFull.toList := by
  cases m
  · exact .inl (by simpa using Vector.mem_of_getElem? h)
  · exact .inr (by simpa using Vector.mem_of_getElem? h)

/-- Step 4 of the tick never finds the ROM without a value. -/
theorem stepMotor_next (s : State) :
    ∃ pattern, phaseRom s.params s.mode (advance s.stepIdx s.dir s.mode).toNat = some pattern ∧
      stepMotor s = .next (emitStep (advance s.stepIdx s.dir s.mode) pattern s) := by
  have h := (phaseRom_isSome_iff s.params s.mode _).2 (advance_toNat_lt s.stepIdx s.dir s.mode)
  obtain ⟨pattern, hp⟩ := Option.isSome_iff_exists.1 h
  exact ⟨pattern, hp, by simp [stepMotor, hp]⟩

/-! ### The tick phase -/

/-- Steps 1 and 2 of the tick. -/
abbrev serviced (s : State) : State := adoptPeriod (countTick s)

/-- Everything the tick phase can do: idle, frozen, newly halted, or one step of the motor. -/
theorem execTick_cases (s : State) :
    (s.current = s.target ∧ execTick s = .next (serviced s)) ∨
    (s.current ≠ s.target ∧ s.halted = true ∧ execTick s = .next (serviced s)) ∨
    (s.current ≠ s.target ∧ s.halted = false ∧ cycleLength s.mode ≤ s.stepIdx.toNat ∧
      execTick s = .next { serviced s with halted := true }) ∨
    (s.current ≠ s.target ∧ s.halted = false ∧ s.stepIdx.toNat < cycleLength s.mode ∧
      ∃ pattern, phaseRom s.params s.mode (advance s.stepIdx s.dir s.mode).toNat = some pattern ∧
        execTick s = .next (emitStep (advance s.stepIdx s.dir s.mode) pattern (serviced s))) := by
  by_cases hidle : s.current = s.target
  · exact .inl ⟨hidle, by simp [execTick, hidle]⟩
  by_cases hhalt : s.halted = true
  · exact .inr (.inl ⟨hidle, hhalt, by simp [execTick, hidle, hhalt]⟩)
  have hhalt : s.halted = false := by simpa using hhalt
  by_cases hrange : cycleLength s.mode ≤ s.stepIdx.toNat
  · exact .inr (.inr (.inl ⟨hidle, hhalt, hrange, by simp [execTick, hidle, hhalt, hrange]⟩))
  · obtain ⟨pattern, hp, hs⟩ := stepMotor_next (serviced s)
    refine .inr (.inr (.inr ⟨hidle, hhalt, by omega, pattern, by simpa using hp, ?_⟩))
    simpa [execTick, hidle, hhalt, hrange] using hs

/-- The tick phase always answers a next state. -/
theorem execTick_next (s : State) : ∃ t, execTick s = .next t := by
  obtain ⟨_, h⟩ | ⟨_, _, h⟩ | ⟨_, _, _, h⟩ | ⟨_, _, _, _, _, h⟩ := execTick_cases s <;> exact ⟨_, h⟩

/-! ### Operands -/

theorem directionOperand_cases (arg : Word) :
    (arg.extractLsb' 1 31 = 0#31 ∧ directionOperand arg = some (Direction.ofBit (arg.getLsbD 0))) ∨
    (arg.extractLsb' 1 31 ≠ 0#31 ∧ directionOperand arg = none) := by
  by_cases h : arg.extractLsb' 1 31 = 0#31
  · exact .inl ⟨h, by simp [directionOperand, bitOperand, h]⟩
  · exact .inr ⟨h, by simp [directionOperand, bitOperand, h]⟩

theorem modeOperand_cases (arg : Word) :
    (arg.extractLsb' 1 31 = 0#31 ∧ modeOperand arg = some (Mode.ofBit (arg.getLsbD 0))) ∨
    (arg.extractLsb' 1 31 ≠ 0#31 ∧ modeOperand arg = none) := by
  by_cases h : arg.extractLsb' 1 31 = 0#31
  · exact .inl ⟨h, by simp [modeOperand, bitOperand, h]⟩
  · exact .inr ⟨h, by simp [modeOperand, bitOperand, h]⟩

theorem periodOperand_cases (p : Params) (arg : Word) :
    (arg ≠ 0#32 ∧ arg.toNat < 2 ^ p.periodW ∧ periodOperand p arg = some arg) ∨
    ((arg = 0#32 ∨ 2 ^ p.periodW ≤ arg.toNat) ∧ periodOperand p arg = none) := by
  by_cases h : arg = 0#32 ∨ 2 ^ p.periodW ≤ arg.toNat
  · exact .inr ⟨h, by simp [periodOperand, h]⟩
  · exact .inl ⟨fun h0 => h (.inl h0), by omega, by simp [periodOperand, h]⟩

/-! ### Two phases in order -/

theorem andThen_eq_next {r : Result} {f : State → Result} {t : State} :
    andThen r f = .next t ↔ ∃ mid, r = .next mid ∧ f mid = .next t := by
  cases r <;> simp [andThen]

@[simp] theorem andThen_next (s : State) (f : State → Result) : andThen (.next s) f = f s := rfl

end Sys2Proof.Machine
end

