-- ==== Sys2Proof/Laws/PerInstr.lean ====
section
/-! SUPPORT. One statement per constructor of Instr: the word of a well-formed instruction lies in the row of
spec/opcode_table.json that has its mnemonic. -/

namespace Sys2Proof.Laws.InTableRow

/-- The encoded word of a well-formed instruction matches a row with the instruction's mnemonic. -/
def Statement (i : Instr) : Prop :=
  i.wellFormed = true → ∀ cw, encode i = some cw →
    ∃ row ∈ opcodeTable, row.mnemonic = i.mnemonic ∧ cw &&& row.mask = row.pattern

/-- A format N or reserved command has one word. -/
theorem of_closed_word {i : Instr} {w : CommandWord} (hw : encode i = some w)
    (h : ∃ row ∈ opcodeTable, row.mnemonic = i.mnemonic ∧ w &&& row.mask = row.pattern) : Statement i := by
  intro _ cw hcw
  rw [hw] at hcw
  exact Option.some.inj hcw ▸ h

theorem nop : Statement .nop := of_closed_word rfl (by decide)

theorem enqSteps (count : Word) : Statement (.enqSteps count) := by
  intro _ cw hcw
  refine ⟨⟨"ENQ_STEPS", 0x100000000#36, 0xF00000000#36⟩, by decide, rfl, ?_⟩
  cases hcw
  exact (packCommand_and_opcodeMask 0x1#4 count).trans (by decide)

theorem enqMicro (count : Word) : Statement (.enqMicro count) := by
  intro _ cw hcw
  refine ⟨⟨"ENQ_MICRO", 0x200000000#36, 0xF00000000#36⟩, by decide, rfl, ?_⟩
  cases hcw
  exact (packCommand_and_opcodeMask 0x2#4 count).trans (by decide)

theorem setDir (arg : Word) : Statement (.setDir arg) := by
  intro hwf cw hcw
  refine ⟨⟨"SET_DIR", 0x300000000#36, 0xFFFFFFFFE#36⟩, by decide, rfl, ?_⟩
  cases hcw
  exact (packCommand_and_bitMask 0x3#4 arg (by simpa [Instr.wellFormed] using hwf)).trans (by decide)

theorem setMode (arg : Word) : Statement (.setMode arg) := by
  intro hwf cw hcw
  refine ⟨⟨"SET_MODE", 0x400000000#36, 0xFFFFFFFFE#36⟩, by decide, rfl, ?_⟩
  cases hcw
  exact (packCommand_and_bitMask 0x4#4 arg (by simpa [Instr.wellFormed] using hwf)).trans (by decide)

theorem setSpeed (period : Word) : Statement (.setSpeed period) := by
  intro _ cw hcw
  refine ⟨⟨"SET_SPEED", 0x500000000#36, 0xF00000000#36⟩, by decide, rfl, ?_⟩
  cases hcw
  exact (packCommand_and_opcodeMask 0x5#4 period).trans (by decide)

theorem isRunning : Statement .isRunning := of_closed_word rfl (by decide)

theorem isForward : Statement .isForward := of_closed_word rfl (by decide)

theorem isFullStep : Statement .isFullStep := of_closed_word rfl (by decide)

theorem rdTarget : Statement .rdTarget := of_closed_word rfl (by decide)

theorem rdCurrent : Statement .rdCurrent := of_closed_word rfl (by decide)

theorem rdTicks : Statement .rdTicks := of_closed_word rfl (by decide)

theorem rdFlags : Statement .rdFlags := of_closed_word rfl (by decide)

theorem reservedRpmSpeed : Statement .reservedRpmSpeed := of_closed_word rfl (by decide)

theorem reserved7 : Statement .reserved7 := of_closed_word rfl (by decide)

theorem reservedF : Statement .reservedF := of_closed_word rfl (by decide)

/-- The tick has no command word (30_encoding.md R89). -/
theorem tick : Statement .tick := fun _ _ h => by cases h

end Sys2Proof.Laws.InTableRow
end

