-- ==== Sys2Proof/Laws/Step.lean ====
section
/-! SUPPORT. What a command phase and a whole edge can do, said once. -/

namespace Sys2Proof.Machine

/-- Everything a command can do: an error response that changes nothing else, or the accepted command's own effect on
the state the preamble of 41_motion_commands.md R140 left. -/
theorem exec_command_cases {i : Instr} {s t : State} (hi : i ≠ .tick) (h : exec i s = .next t) :
    (∃ status, t = raiseStatus status s ∧
      ((i.isReserved = true ∧ status = .errOp) ∨
       (i.isReserved = false ∧ i.legal s.params = false ∧ status = .errArg))) ∨
    (i = .nop ∧ t = acceptCommand s) ∨
    (∃ count, i = .enqSteps count ∧
      t = addTarget (count.toNat * enqueueMultiplier s.mode) (acceptCommand s)) ∨
    (∃ count, i = .enqMicro count ∧ t = addTarget count.toNat (acceptCommand s)) ∨
    (∃ arg, i = .setDir arg ∧ arg.extractLsb' 1 31 = 0#31 ∧
      t = changeDirection (Direction.ofBit (arg.getLsbD 0)) (acceptCommand s)) ∨
    (∃ arg, i = .setMode arg ∧ arg.extractLsb' 1 31 = 0#31 ∧
      t = changeMode (Mode.ofBit (arg.getLsbD 0)) (acceptCommand s)) ∨
    (∃ period, i = .setSpeed period ∧ period ≠ 0#32 ∧ period.toNat < 2 ^ s.params.periodW ∧
      t = commandPeriod period (acceptCommand s)) ∨
    (i.isQuery = true ∧ ∃ data, t = respond data s) := by
  cases i with
  | nop => cases h; simp
  | enqSteps count => cases h; simp [countOperand]
  | enqMicro count => cases h; simp [countOperand]
  | setDir arg =>
    simp only [exec, execSetDir] at h
    obtain ⟨hr, ho⟩ | ⟨hr, ho⟩ := directionOperand_cases arg <;> rw [ho] at h <;> cases h
    · simp [hr]
    · exact .inl ⟨.errArg, rfl, .inr ⟨rfl, by simp [Instr.legal, Instr.wellFormed, hr], rfl⟩⟩
  | setMode arg =>
    simp only [exec, execSetMode] at h
    obtain ⟨hr, ho⟩ | ⟨hr, ho⟩ := modeOperand_cases arg <;> rw [ho] at h <;> cases h
    · simp [hr]
    · exact .inl ⟨.errArg, rfl, .inr ⟨rfl, by simp [Instr.legal, Instr.wellFormed, hr], rfl⟩⟩
  | setSpeed period =>
    simp only [exec, execSetSpeed] at h
    obtain ⟨h0, hlt, ho⟩ | ⟨hbad, ho⟩ := periodOperand_cases s.params period <;> rw [ho] at h <;> cases h
    · simp [h0, hlt]
    · refine .inl ⟨.errArg, rfl, .inr ⟨rfl, ?_, rfl⟩⟩
      obtain h0 | hge := hbad
      · simp [Instr.legal, h0]
      · simp [Instr.legal, hge]
  | isRunning | isForward | isFullStep | rdTarget | rdCurrent | rdTicks | rdFlags => cases h; exact .inr (.inr (.inr (.inr (.inr (.inr (.inr ⟨rfl, _, rfl⟩))))))
  | reservedRpmSpeed | reserved7 | reservedF => cases h; exact .inl ⟨.errOp, rfl, .inl ⟨rfl, rfl⟩⟩
  | tick => exact absurd rfl hi

/-- Every instruction answers a next state, in every state. -/
theorem exec_next (i : Instr) (s : State) : ∃ t, exec i s = .next t := by
  cases i with
  | setDir arg => simp only [exec, execSetDir]; split <;> exact ⟨_, rfl⟩
  | setMode arg => simp only [exec, execSetMode]; split <;> exact ⟨_, rfl⟩
  | setSpeed arg => simp only [exec, execSetSpeed]; split <;> exact ⟨_, rfl⟩
  | tick => exact execTick_next s
  | nop | enqSteps | enqMicro | isRunning | isForward | isFullStep | rdTarget | rdCurrent | rdTicks | rdFlags
  | reservedRpmSpeed | reserved7 | reservedF => exact ⟨_, rfl⟩

/-- A step of a state whose coming edge is known. -/
theorem step_of_edges {s : State} {e : Edge} {rest : List Edge} (h : s.edges = e :: rest) :
    step s = cycle e (popEdge s) := by
  simp [step, nextEdge, h]

theorem popEdge_eq {s : State} {e : Edge} {rest : List Edge} (h : s.edges = e :: rest) :
    popEdge s = { s with edges := rest } := by
  simp [popEdge, h]

theorem cycle_reset {e : Edge} (s : State) (h : e.rst = true) : cycle e s = .next (resetEdge s) := by
  simp [cycle, h]

theorem cycle_run {e : Edge} {s : State} (hr : e.rst = false) (ha : s.attached = true) :
    cycle e s = andThen (tickPhase e (beginEdge s)) (commandPhase e) := by
  simp [cycle, hr, ha]

/-- An edge with a meaning is a reset, or a tick phase and then a command phase, each perhaps empty. -/
theorem cycle_next_cases {e : Edge} {s t : State} (h : cycle e s = .next t) :
    (e.rst = true ∧ t = resetEdge s) ∨
    (e.rst = false ∧ s.attached = true ∧ ∃ mid,
      ((e.tick = true ∧ execTick (beginEdge s) = .next mid) ∨ (e.tick = false ∧ mid = beginEdge s)) ∧
      ((e.cmdValid = true ∧ exec (decode e.cmdOp e.cmdArg) mid = .next t) ∨ (e.cmdValid = false ∧ t = mid))) := by
  cases hr : e.rst with
  | true => rw [cycle_reset s hr] at h; cases h; simp
  | false =>
    cases ha : s.attached with
    | false => simp [cycle, hr, ha] at h
    | true =>
      rw [cycle_run hr ha] at h
      obtain ⟨mid, hm, hc⟩ := andThen_eq_next.1 h
      refine .inr ⟨rfl, rfl, mid, ?_, ?_⟩
      · cases ht : e.tick
        · simp only [tickPhase, ht] at hm; cases hm; simp
        · simp only [tickPhase, ht] at hm; exact .inl ⟨rfl, hm⟩
      · cases hv : e.cmdValid
        · simp only [commandPhase, hv] at hc; cases hc; simp
        · simp only [commandPhase, hv] at hc; exact .inl ⟨rfl, hc⟩

/-- The decoder answers a command, never the tick (30_encoding.md R89). -/
theorem decode_ne_tick (op : BitVec 4) (arg : Word) : decode op arg ≠ .tick := by
  unfold decode; split <;> simp

end Sys2Proof.Machine
end

