-- ==== Sys2Proof/Laws/Run.lean ====
section
/-! SUPPORT. Runs of several edges, the invariant rule for them, and what they do to the motor. -/

namespace Sys2Proof.Machine

@[simp] theorem run_zero (s : State) : run 0 s = .next s := rfl

theorem core_step (s : State) : Host.Core.step Sys2Proof.core s = step s := rfl

theorem run_succ (n : Nat) (s : State) : run (n + 1) s = andThen (step s) (run n) := by
  refine (Host.Core.run.eq_2 Sys2Proof.core s n).trans ?_
  rw [core_step]
  cases step s <;> rfl

theorem run_succ_of_step {n : Nat} {s t : State} (h : step s = .next t) : run (n + 1) s = run n t := by
  rw [run_succ, h, andThen_next]

theorem run_add {m n : Nat} {s t : State} (h : run m s = .next t) : run (m + n) s = run n t := by
  induction m generalizing s with
  | zero => cases h; simp
  | succ m ih =>
    rw [run_succ] at h
    obtain ⟨mid, hs, hr⟩ := andThen_eq_next.1 h
    rw [Nat.add_right_comm, run_succ_of_step hs]
    exact ih hr

/-- A property that holds after every reset edge, whatever inputs follow, and that every step keeps, holds in every
reachable state. -/
theorem reachable_inv {p : Params} {Good : State → Prop}
    (h0 : ∀ edges, Good { State.resetOf p with edges := edges })
    (hstep : ∀ s t, Good s → step s = .next t → Good t) {s : State} (h : Reachable p s) : Good s := by
  induction h with
  | reset edges => exact h0 edges
  | step _ hs ih => exact hstep _ _ ih hs

/-! ### What a run does to the motor -/

@[simp] theorem activeTickDirections_zero (s : State) : activeTickDirections 0 s = [] := rfl

theorem activeTickDirections_succ {n : Nat} {s t : State} (h : step s = .next t) :
    activeTickDirections (n + 1) s =
      (if (nextEdge s).tick && !(nextEdge s).rst && decide (tickIsActive s) then [s.dir] else []) ++
        activeTickDirections n t := by
  simp [activeTickDirections, h]

@[simp] theorem coilWrites_zero (s : State) : coilWrites 0 s = [] := rfl

theorem coilWrites_succ {n : Nat} {s t : State} (h : step s = .next t) :
    coilWrites (n + 1) s = (if t.coilWe then [t.coil] else []) ++ coilWrites n t := by
  cases hw : t.coilWe <;> simp [coilWrites, observe, h, outputs, hw]

end Sys2Proof.Machine
end

