-- ==== Sys2Proof/Tests/Slice0.lean ====
section
/-! SUPPORT. The model's own tests: words of the encoding, ill-formed terms, one-step vectors of 95_test_vectors.md (each
test names its vector), and a witness for the hypotheses of each statement of Certificates/Slice0/Obligations.lean. -/

namespace Sys2Proof.Tests

open Sys2Proof Sys2Proof.Machine

/-- A Bool check of a next state; false at a fault or a refusal. -/
def next (r : Result) (check : State → Bool) : Bool :=
  match r with
  | .next s => check s
  | .fault _ => false
  | .refused _ => false

/-- After the first edge out of reset, both periods 1000 (the convention of 95_test_vectors.md section 2). -/
def base : State := { State.reset with started := true }

/-- The same with the inputs of the coming edges. -/
def withEdges (edges : List Edge) (s : State) : State := { s with edges := edges }

/-! ### Well-formedness: each check refuses an ill-formed term -/

theorem test_wellFormed_refuses_setDir_reserved_bit : (Instr.setDir 2#32).wellFormed = false := by decide

theorem test_wellFormed_refuses_setMode_reserved_bit : (Instr.setMode 0x80000001#32).wellFormed = false := by decide

theorem test_wellFormed_admits_both_bits :
    (Instr.setDir 1#32).wellFormed = true ∧ (Instr.setMode 0#32).wellFormed = true := by decide

theorem test_legal_refuses_zero_period : (Instr.setSpeed 0#32).legal Params.defaults = false := by decide

theorem test_legal_refuses_wide_period :
    (Instr.setSpeed 0x10000#32).legal { Params.defaults with periodW := 16 } = false := by decide

theorem test_legal_refuses_reserved_opcode : Instr.reservedF.legal Params.defaults = false := by decide

theorem test_legal_params_refuse_a_narrow_counter : ¬ Params.Legal { Params.defaults with stepW := 7 } := by decide

theorem test_legal_params_refuse_a_zero_period : ¬ Params.Legal { Params.defaults with initPeriod := 0#32 } := by decide

theorem test_legal_params_refuse_one_coil_in_full_step :
    ¬ Params.Legal { Params.defaults with phaseFull := #v[1#4, 6#4, 12#4, 9#4] } := by decide

theorem test_default_params_are_legal : Params.defaults.Legal := by decide

/-! ### Decoding: every constructor from a word written out bit by bit (30_encoding.md R80, R81, R84) -/

theorem test_decode_nop : decodeWord 0b0000_0001_0010_0011_0100_0101_0110_0111_1000#36 = .nop := by decide

theorem test_decode_enqSteps :
    decodeWord 0b0001_1000_0000_0000_0000_0000_0000_0000_0001#36 = .enqSteps 0x80000001#32 := by decide

theorem test_decode_enqMicro :
    decodeWord 0b0010_0000_0000_0000_0000_0000_0000_0110_0100#36 = .enqMicro 100#32 := by decide

theorem test_decode_setDir :
    decodeWord 0b0011_0000_0000_0000_0000_0000_0000_0000_0001#36 = .setDir 1#32 := by decide

theorem test_decode_setMode :
    decodeWord 0b0100_0000_0000_0000_0000_0000_0000_0000_0011#36 = .setMode 3#32 := by decide

theorem test_decode_setSpeed :
    decodeWord 0b0101_0000_0000_0000_0000_0000_0000_1111_1010#36 = .setSpeed 250#32 := by decide

theorem test_decode_reservedRpmSpeed :
    decodeWord 0b0110_0000_0000_0000_0000_0000_0000_0110_0100#36 = .reservedRpmSpeed := by decide

theorem test_decode_reserved7 :
    decodeWord 0b0111_0000_0000_0000_0000_0000_0000_0000_0000#36 = .reserved7 := by decide

theorem test_decode_isRunning :
    decodeWord 0b1000_1111_1111_1111_1111_1111_1111_1111_1111#36 = .isRunning := by decide

theorem test_decode_isForward :
    decodeWord 0b1001_0000_0000_0000_0000_0000_0000_0000_0000#36 = .isForward := by decide

theorem test_decode_isFullStep :
    decodeWord 0b1010_0000_0000_0000_0000_0000_0000_0000_0000#36 = .isFullStep := by decide

theorem test_decode_rdTarget :
    decodeWord 0b1011_0000_0000_0000_0000_0000_0000_0000_0000#36 = .rdTarget := by decide

theorem test_decode_rdCurrent :
    decodeWord 0b1100_0000_0000_0000_0000_0000_0000_0000_0000#36 = .rdCurrent := by decide

theorem test_decode_rdTicks :
    decodeWord 0b1101_0000_0000_0000_0000_0000_0000_0000_0000#36 = .rdTicks := by decide

theorem test_decode_rdFlags :
    decodeWord 0b1110_0000_0000_0000_0000_0000_0000_0000_0000#36 = .rdFlags := by decide

theorem test_decode_reservedF :
    decodeWord 0b1111_1111_1111_1111_1111_1111_1111_1111_1111#36 = .reservedF := by decide

/-- The tick has no command word (R89); `TICK` of a listing is the tick input. -/
theorem test_tick_is_an_input : encode .tick = none ∧ presentInstr .tick = ⟨false, true, false, 0#4, 0#32⟩ := by decide

theorem test_decode_refuses_a_number_of_37_bits :
    decodeNumber 0x1000000000 = .error .widerThanCommandWord := by decide

/-! ### Listings (30_encoding.md R87, R88) -/

theorem test_assemble_tick_and_command : assembleLine "TICK + SET_SPEED 0x190" = some (.tickAnd (.setSpeed 400#32)) := by
  decide

theorem test_assemble_symbolic_bit : assembleLine "SET_DIR BWD" = some (.command (.setDir 1#32)) := by decide

theorem test_cancel_expands_to_two_commands :
    listingEdges (Pseudo.cancel.expand .forward) =
      [⟨false, false, true, 3#4, 1#32⟩, ⟨false, false, true, 3#4, 0#32⟩] := by decide

/-! ### Motion commands -/

/-- M20. -/
theorem test_nop : next (exec .nop base) (fun t => decide (t = { base with rspValid := true })) = true := by decide

/-- M2. -/
theorem test_enqSteps_full : next (exec (.enqSteps 1#32) { base with mode := .full }) (fun t => t.target == 4#32) = true := by
  decide

/-- M4. -/
theorem test_enqSteps_lost_motion :
    next (exec (.enqSteps 0x20000000#32) { base with target := 5#32, current := 5#32 })
      (fun t => t.target == 5#32 && t.ovfWarn && !running t) = true := by decide

/-- M5. -/
theorem test_enqMicro_carry :
    next (exec (.enqMicro 8#32) { base with target := 0xFFFFFFFC#32 }) (fun t => t.target == 4#32 && t.ovfWarn) = true := by
  decide

/-- Program E, edge 4: STEP_W = 8. -/
theorem test_enqMicro_narrow :
    next (exec (.enqMicro 10#32) { base with
        params := { Params.defaults with stepW := 8 }, target := 250#32, current := 250#32 })
      (fun t => t.target == 4#32 && t.ovfWarn && running t) = true := by decide

/-- M8. -/
theorem test_setDir_collapses :
    next (exec (.setDir 1#32) { base with current := 3#32, target := 10#32, stepIdx := 3#3, coil := 6#4 })
      (fun t => t.dir == .backward && t.current == 10#32 && !running t && t.stepIdx == 3#3 && t.coil == 6#4) = true := by
  decide

/-- M10. -/
theorem test_setDir_reserved_bits :
    next (exec (.setDir 0x80000001#32) base) (fun t => t.rspStatus == 2#2 && t.dir == .forward) = true := by decide

/-- M11. -/
theorem test_setMode_clamps :
    next (exec (.setMode 1#32) { base with stepIdx := 6#3, coil := 8#4 })
      (fun t => t.mode == .full && t.stepIdx == 2#3 && t.coil == 8#4 && fullStep t) = true := by decide

/-- M15. -/
theorem test_setMode_reserved_bits :
    next (exec (.setMode 3#32) { base with stepIdx := 5#3 })
      (fun t => t.rspStatus == 2#2 && t.mode == .half && t.stepIdx == 5#3) = true := by decide

/-- M16. -/
theorem test_setSpeed_deferred :
    next (exec (.setSpeed 250#32) base)
      (fun t => t.cmdPeriod == 250#32 && t.effPeriod == 1000#32 && !t.cmpLoad) = true := by decide

/-- M18. -/
theorem test_setSpeed_too_wide :
    next (exec (.setSpeed 0x10000#32) { base with params := { Params.defaults with periodW := 16 } })
      (fun t => t.rspStatus == 2#2 && t.cmdPeriod == 1000#32) = true := by decide

/-! ### Queries -/

/-- Q1. -/
theorem test_isRunning :
    next (exec .isRunning { base with current := 3#32, target := 8#32 }) (fun t => t.rspData == 1#32) = true := by decide

/-- Q3. -/
theorem test_isForward : next (exec .isForward { base with dir := .backward }) (fun t => t.rspData == 0#32) = true := by
  decide

/-- Q4. -/
theorem test_isFullStep : next (exec .isFullStep { base with mode := .full }) (fun t => t.rspData == 1#32) = true := by
  decide

/-- Q5. -/
theorem test_rdTarget :
    next (exec .rdTarget { base with params := { Params.defaults with stepW := 16 }, target := 0xFFFF#32 })
      (fun t => t.rspData == 0xFFFF#32) = true := by decide

/-- Q6. -/
theorem test_rdCurrent : next (exec .rdCurrent { base with current := 10#32 }) (fun t => t.rspData == 10#32) = true := by
  decide

/-- Q7. -/
theorem test_rdTicks : next (exec .rdTicks { base with tickCount := 14#32 }) (fun t => t.rspData == 14#32) = true := by
  decide

/-- Q8. -/
theorem test_rdFlags_warn : next (exec .rdFlags { base with ovfWarn := true }) (fun t => t.rspData == 1#32) = true := by
  decide

/-- Q9. -/
theorem test_rdFlags_both :
    next (exec .rdFlags { base with ovfWarn := true, halted := true }) (fun t => t.rspData == 3#32) = true := by decide

/-! ### Reserved opcodes -/

/-- M21. -/
theorem test_reservedRpmSpeed :
    next (exec .reservedRpmSpeed base)
      (fun t => decide (t = { base with rspValid := true, rspStatus := 1#2 })) = true := by decide

/-- M22. -/
theorem test_reserved7 : next (exec .reserved7 base) (fun t => t.rspStatus == 1#2) = true := by decide

/-- M22. -/
theorem test_reservedF : next (exec .reservedF base) (fun t => t.rspStatus == 1#2) = true := by decide

/-! ### The tick and the edge -/

/-- T5 with the wrap of `current` of T8. -/
theorem test_tick_backward_wraps :
    next (exec .tick { base with dir := .backward, current := 0xFFFFFFFF#32, target := 2#32 })
      (fun t => t.stepIdx == 7#3 && t.coil == 9#4 && t.coilWe && t.current == 0#32 && t.ovfWarn && running t) = true := by
  decide

/-- T10. -/
theorem test_tick_halts_out_of_range :
    next (exec .tick { base with mode := .full, stepIdx := 6#3, current := 1#32, target := 4#32 })
      (fun t => t.halted && t.current == 1#32 && t.stepIdx == 6#3 && !t.coilWe && t.tickCount == 1#32) = true := by decide

/-- S2. -/
theorem test_step_tick_then_setDir :
    next (step (withEdges [withTick (presentInstr (.setDir 1#32))]
        { base with stepIdx := 3#3, current := 3#32, target := 10#32 }))
      (fun t => t.stepIdx == 4#3 && t.coil == 4#4 && t.coilWe && t.dir == .backward && t.current == 10#32) = true := by
  decide

/-- S6. -/
theorem test_step_reset_wins :
    next (step (withEdges [⟨true, true, true, 1#4, 1#32⟩] { base with halted := true, tickCount := 9#32 }))
      (fun t => decide (t = State.reset)) = true := by decide

/-- S7. -/
theorem test_step_first_edge :
    next (step State.reset) (fun t => t.started && t.cmpLoad && t.effPeriod == 1000#32 && !t.rspValid) = true := by decide

/-- A fetched word runs as the first instruction after reset (Program A, edge 1). -/
theorem test_step_fetched_word :
    next (step (State.reset.withFetchWord 36 0x100000001))
      (fun t => t.target == 8#32 && t.rspValid && t.started && t.cmpLoad) = true := by decide

/-- A terminal k+1 shows bit k (20_memory.md R65). -/
theorem test_terminals :
    (terminalEnergized (outputs { base with coil := 0b1001#4 }) 1 && !terminalEnergized (outputs { base with coil := 0b1001#4 }) 2
      && terminalEnergized (outputs { base with coil := 0b1001#4 }) 4) = true := by decide

/-! ### Witnesses: the hypotheses of each statement hold together on a concrete state -/

/-- A moving machine with two step units pending (Half, Forward, index 7). -/
def moving : State := { base with stepIdx := 7#3, current := 3#32, target := 5#32 }

/-- A reset edge with everything else presented too. -/
def busyReset : Edge := ⟨true, true, true, 15#4, 0xFFFFFFFF#32⟩

theorem witness_EveryOpcodeHasItsArm :
    (1#32 : Word).extractLsb' 1 31 = 0#31 ∧ (2#32 : Word).extractLsb' 1 31 ≠ 0#31 := by decide

theorem witness_DecodeOfEncodeIsTheInstruction : Instr.setMode 0xFFFFFFFF#32 ≠ .tick := by decide

theorem witness_EncodeOfDecodeKeepsOpcodeAndOperand :
    (1 ≤ (opOf 0x1FFFFFFFF#36).toNat ∧ (opOf 0x1FFFFFFFF#36).toNat ≤ 5) ∧
    (1 ≤ (opOf 0x5FFFFFFFF#36).toNat ∧ (opOf 0x5FFFFFFFF#36).toNat ≤ 5) := by decide

theorem witness_TableRowsDecodeToTheirMnemonicAlone :
    ∃ row ∈ opcodeTable, (0x300000001#36 : CommandWord) &&& row.mask = row.pattern := by decide

theorem witness_ResetEdgeLoadsEveryResetValue :
    (withEdges [busyReset] moving).edges = busyReset :: [] ∧ busyReset.rst = true := by decide

theorem witness_NoMeaningBeforeTheFirstReset :
    let s := withEdges [tickEdge] { base with attached := false }
    s.attached = false ∧ s.edges = tickEdge :: [] ∧ tickEdge.rst = false := by decide

theorem witness_StepRunsThePresentedInstruction_command :
    let s := withEdges [⟨false, false, true, 15#4, 0#32⟩] base
    s.attached = true ∧ s.edges = ⟨false, false, true, 15#4, 0#32⟩ :: [] := by decide

theorem witness_StepRunsThePresentedInstruction_tick :
    let s := withEdges [⟨false, true, false, 9#4, 7#32⟩] moving
    s.attached = true ∧ s.edges = ⟨false, true, false, 9#4, 7#32⟩ :: [] := by decide

theorem witness_StepRunsThePresentedInstruction_presented :
    (withEdges [presentInstr .rdFlags] base).edges = presentInstr .rdFlags :: [] := by decide

theorem witness_StepRunsThePresentedInstruction_none :
    State.reset.attached = true ∧ State.reset.edges = [] := by decide

theorem witness_EdgeIsResetThenTickThenCommand :
    let s := withEdges [⟨false, true, true, 3#4, 1#32⟩] moving
    s.attached = true ∧ s.edges = ⟨false, true, true, 3#4, 1#32⟩ :: [] := by decide

theorem witness_EdgeIsResetThenTickThenCommand_reset :
    let s := withEdges [busyReset] moving
    s.attached = true ∧ s.edges = busyReset :: [] ∧ busyReset.rst = true := by decide

theorem witness_EveryEdgeFinishesAndCountsItsTick :
    let e : Edge := ⟨false, true, true, 7#4, 0#32⟩
    let s := withEdges [e] { moving with tickCount := 0xFFFFFFFF#32 }
    s.attached = true ∧ s.edges = e :: [] ∧ s.params.tickW ≤ 32 ∧ e.rst = false ∧ e.tick = true ∧
      Edge.idle.rst = false ∧ Edge.idle.tick = false := by decide

theorem witness_TickHeldHighCountsEveryEdge :
    let es := [withTick (presentInstr (.enqMicro 2#32)), tickEdge]
    let s := withEdges es moving
    s.attached = true ∧ s.params.tickW ≤ 32 ∧ es ≠ [] ∧ (∀ e ∈ es, e.rst = false ∧ e.tick = true) ∧
      s.edges = es ++ [] := by decide

theorem witness_EdgeReadsNoLaterInput : moving.attached = true := by decide

theorem witness_PulsesShowTheEdgeForOneCycle :
    let s := withEdges [tickEdge] moving
    s.attached = true ∧ s.edges = tickEdge :: [] ∧ tickEdge.rst = false ∧ tickEdge.cmdValid = false ∧ tickIsActive s ∧
      busyReset.rst = true := by decide

theorem witness_FirstEdgeAfterResetStartsTheTimer :
    (withTick (presentInstr (.setSpeed 7#32))).rst = false ∧ Edge.idle.rst = false ∧ Edge.idle.tick = false := by decide

theorem witness_StickyBitsAreSetExactlyByTheirCauses :
    let e := withTick (presentInstr (.enqMicro 0xFFFFFFFF#32))
    let s := withEdges [e] { moving with current := 0xFFFFFFFF#32 }
    s.attached = true ∧ s.edges = e :: [] ∧ e.rst = false ∧ tickIsActive s ∧
      s.current.toNat = 2 ^ s.params.stepW - 1 ∧ 2 ^ s.params.stepW ≤ s.target.toNat + e.cmdArg.toNat := by decide

theorem witness_IllegalOperandsAnswerErrArg :
    (2#32 : Word).extractLsb' 1 31 ≠ 0#31 ∧
    2 ^ (Params.mk 32 32 16 1#32 Params.defaultPhaseHalf Params.defaultPhaseFull).periodW ≤ (0x10000#32 : Word).toNat ∧
    Instr.rdFlags.isQuery = true := by decide

theorem witness_StatusSaysExactlyWhetherTheCommandWasLegal :
    Instr.setSpeed 0#32 ≠ .tick ∧ Instr.nop.isQuery = false ∧
      next (exec (.setSpeed 0#32) base) (fun t => t.rspStatus != 0#2) = true := by decide

theorem witness_StatusQueryAgreesWithItsOutputPort :
    let e := withTick (presentInstr .isRunning)
    let s := withEdges [e] { moving with current := 4#32 }
    s.attached = true ∧ s.edges = e :: [] ∧ e.rst = false ∧ e.cmdValid = true ∧ e.cmdOp = 0x8#4 ∧
      (presentInstr .isForward).cmdOp = 0x9#4 ∧ (presentInstr .isFullStep).cmdOp = 0xA#4 := by decide

theorem witness_ResponsesDoNotRevealHiddenRegisters : Instr.rdFlags ≠ .tick := by decide

theorem witness_RegistersChangeOnlyByTheirWriters :
    next (exec .tick { moving with cmdPeriod := 9#32, current := 0xFFFFFFFF#32 }) (fun t =>
      t.current != 0xFFFFFFFF#32 && t.stepIdx != 7#3 && t.effPeriod != 1000#32 && t.ovfWarn) = true ∧
    next (exec (.setDir 1#32) moving) (fun t => t.dir != moving.dir && t.current != moving.current) = true ∧
    next (exec (.setMode 1#32) moving) (fun t => t.mode != moving.mode && t.stepIdx != moving.stepIdx) = true ∧
    next (exec (.setSpeed 1#32) moving) (fun t => t.cmdPeriod != moving.cmdPeriod) = true ∧
    next (exec (.enqMicro 1#32) moving) (fun t => t.target != moving.target && t.rspValid) = true := by decide

theorem witness_EnqStepsAddsWholeCycles :
    base.params.stepW ≤ 32 ∧ base.target.toNat < 2 ^ base.params.stepW ∧ base.current = base.target := by decide

theorem witness_EnqMicroAddsTheCount :
    let s := { base with params := { Params.defaults with stepW := 8 }, target := 255#32, current := 255#32 }
    s.params.stepW ≤ 32 ∧ s.target.toNat < 2 ^ s.params.stepW ∧ s.current = s.target := by decide

theorem witness_SetDirCollapsesPendingMotionOnAChange :
    ((1#32 : Word).extractLsb' 1 31 = 0#31 ∧
      (if (1#32 : Word).getLsbD 0 then Direction.backward else .forward) ≠ moving.dir) ∧
    ((0#32 : Word).extractLsb' 1 31 = 0#31 ∧
      (if (0#32 : Word).getLsbD 0 then Direction.backward else .forward) = moving.dir) ∧
    (0x80000000#32 : Word).extractLsb' 1 31 ≠ 0#31 := by decide

theorem witness_SetModeClampsTheIndex :
    ((1#32 : Word).extractLsb' 1 31 = 0#31 ∧ { base with stepIdx := 3#3 }.stepIdx.toNat < 4) ∧
    (2#32 : Word).extractLsb' 1 31 ≠ 0#31 := by decide

theorem witness_SetSpeedWritesOnlyTheCommandedPeriod :
    let s := { base with params := { Params.defaults with periodW := 16 } }
    (1 ≤ (0xFFFF#32 : Word).toNat ∧ (0xFFFF#32 : Word).toNat ≤ 2 ^ s.params.periodW - 1) ∧
    2 ^ s.params.periodW ≤ (0x10000#32 : Word).toNat := by decide

theorem witness_ModeChangeKeepsPendingMotion :
    let s := withEdges [presentInstr (.enqSteps 1#32), presentInstr (setModeCommand .full)] base
    s.attached = true ∧ s.params.stepW ≤ 32 ∧ s.target.toNat < 2 ^ s.params.stepW ∧ s.current = s.target ∧
      s.edges = presentInstr (.enqSteps 1#32) :: presentInstr (setModeCommand .full) :: [] := by decide

theorem witness_PendingIsRaisedLoweredAndCollapsed :
    let s := { moving with current := 0xFFFFFFFF#32 }
    s.params.stepW ≤ 32 ∧ s.target.toNat < 2 ^ s.params.stepW ∧ s.current.toNat < 2 ^ s.params.stepW ∧ tickIsActive s := by
  decide

theorem witness_ReversalDiscardsPendingMotion_reversal :
    let s := withEdges [presentInstr (setDirCommand .backward), tickEdge, tickEdge] moving
    s.attached = true ∧
      s.edges = presentInstr (setDirCommand s.dir.opposite) :: (List.replicate 2 tickEdge ++ []) := by decide

theorem witness_ReversalDiscardsPendingMotion_cancel :
    let s := withEdges [presentInstr (setDirCommand .backward), withTick (presentInstr (setDirCommand .forward))] moving
    s.attached = true ∧
      s.edges = presentInstr (setDirCommand s.dir.opposite) :: withTick (presentInstr (setDirCommand s.dir)) :: [] := by
  decide

theorem witness_SpeedChangeWaitsForTheNextTick :
    let between := [Edge.idle, presentInstr (.enqMicro 2#32), presentInstr (.setSpeed 0#32)]
    let adopting := withTick (presentInstr (.setSpeed 9#32))
    let s := withEdges (⟨false, true, true, 0x5#4, 250#32⟩ :: (between ++ adopting :: [])) base
    s.attached = true ∧ 1 ≤ (250#32 : Word).toNat ∧ (250#32 : Word).toNat ≤ 2 ^ s.params.periodW - 1 ∧
      (∀ e ∈ between, e.rst = false ∧ e.tick = false ∧
        (e.cmdValid = true → e.cmdOp = 0x5#4 → e.cmdArg = 0#32 ∨ 2 ^ s.params.periodW ≤ e.cmdArg.toNat)) ∧
      adopting.rst = false ∧ adopting.tick = true ∧
      s.edges = ⟨false, true, true, 0x5#4, 250#32⟩ :: (between ++ adopting :: []) := by decide

theorem witness_QueriesWriteOnlyTheResponse :
    ((0x8#4 : BitVec 4) ≤ 0xE#4 ∧ (0xE#4 : BitVec 4) ≠ 0xF#4) ∧ Instr.isRunning.isQuery = true := by decide

theorem witness_EveryTickCountsAndAdoptsThePeriod :
    { base with halted := true, cmdPeriod := 9#32 }.params.tickW ≤ 32 ∧ Instr.setSpeed 9#32 ≠ .tick := by decide

theorem witness_IdleTickTouchesNoMotion :
    base.current = base.target ∧ base.params.tickW ≤ 32 := by decide

theorem witness_ActiveTickStepsTheMotor :
    let s := { moving with mode := .full, stepIdx := 3#3, dir := .backward }
    s.current ≠ s.target ∧ s.halted = false ∧ s.stepIdx.toNat < cycleLength s.mode ∧ s.params.stepW ≤ 32 ∧
      s.params.tickW ≤ 32 := by decide

theorem witness_HaltedTickDoesNotStep :
    (let s := { moving with halted := true };
      s.current ≠ s.target ∧ s.params.tickW ≤ 32 ∧ s.halted = true) ∧
    (let s := { moving with mode := .full, stepIdx := 4#3 };
      s.current ≠ s.target ∧ s.params.tickW ≤ 32 ∧ cycleLength s.mode ≤ s.stepIdx.toNat) := by decide

theorem witness_PhaseRomIsReadOnlyInRange :
    (7 < 8 ∧ 3 < 4) ∧ phaseRom Params.defaults .half 7 = some 9#4 ∧ phaseRom Params.defaults .half 8 = none ∧
      phaseRom Params.defaults .full 3 = some 9#4 ∧ phaseRom Params.defaults .full 4 = none := by decide

theorem witness_RetreatingRepeatsTheEarlierPattern :
    (0#3 : BitVec 3).toNat < cycleLength .full ∧ tickIsActive moving ∧ moving.dir = .forward ∧
      next (exec .tick moving) (fun t => t.current != 9#32) = true := by decide

theorem witness_RepeatedIdleTicksWriteNoCoil :
    let s := withEdges [tickEdge, tickEdge] { base with coil := 6#4 }
    s.attached = true ∧ s.current = s.target ∧ s.edges = List.replicate 2 tickEdge ++ [] ∧ 0 < 2 := by decide

theorem witness_FullCycleReturnsToTheStartIndex :
    let es := [tickEdge, presentInstr (.enqMicro 1#32), withTick (presentInstr .rdTicks), Edge.idle] ++
      List.replicate 6 tickEdge
    let s := withEdges es { moving with target := 11#32 }
    s.attached = true ∧ s.edges = es ++ [] ∧
      (∀ e ∈ es, e.rst = false ∧ (e.cmdValid = true → e.cmdOp = 0x4#4 → e.cmdArg.extractLsb' 1 31 ≠ 0#31)) ∧
      activeTickDirections es.length s = List.replicate (cycleLength s.mode) .forward := by decide

theorem witness_FullCycleReturnsToTheStartIndex_pending :
    let es := List.replicate 2 tickEdge ++ [withTick (presentInstr (.setSpeed 9#32)), withTick (presentInstr (.setDir 1#32))]
    let s := withEdges es { moving with target := 11#32, mode := .full, stepIdx := 3#3, dir := .backward }
    s.attached = true ∧ s.edges = es ++ [] ∧
      (∀ e ∈ es, e.rst = false ∧ (e.cmdValid = true → e.cmdOp = 0x4#4 → e.cmdArg.extractLsb' 1 31 ≠ 0#31)) ∧
      s.params.stepW ≤ 32 ∧ s.target.toNat < 2 ^ s.params.stepW ∧ s.current.toNat < 2 ^ s.params.stepW ∧
      s.halted = false ∧ IndexInRange s ∧ cycleLength s.mode ≤ pending s ∧
      es.countP (·.tick) = cycleLength s.mode ∧
      (∀ e ∈ es, e.cmdValid = true → e.cmdOp ≠ 0x1#4 ∧ e.cmdOp ≠ 0x2#4 ∧
        (e.cmdOp = 0x3#4 → e.cmdArg.extractLsb' 1 31 ≠ 0#31 ∨ Direction.ofBit (e.cmdArg.getLsbD 0) = s.dir)) := by
  decide

theorem witness_PendingMotionEndsAfterThatManyTicks :
    let s := withEdges (List.replicate 2 tickEdge) { moving with current := 0xFFFFFFFF#32, target := 1#32 }
    s.attached = true ∧ s.params.stepW ≤ 32 ∧ s.target.toNat < 2 ^ s.params.stepW ∧
      s.current.toNat < 2 ^ s.params.stepW ∧ s.halted = false ∧ IndexInRange s ∧
      s.edges = List.replicate 2 tickEdge ++ [] ∧ pending s = 2 := by decide

theorem witness_SameEdgeCommandActsAfterTheTick :
    (let s := withEdges [⟨false, true, true, 3#4, 1#32⟩] moving;
      s.attached = true ∧ s.params.stepW ≤ 32 ∧ s.edges = ⟨false, true, true, 3#4, 1#32⟩ :: [] ∧ tickIsActive s ∧
        (1#32 : Word).extractLsb' 1 31 = 0#31 ∧ Direction.ofBit ((1#32 : Word).getLsbD 0) ≠ s.dir) ∧
    (let s := withEdges [⟨false, true, true, 1#4, 1#32⟩] base;
      s.attached = true ∧ s.edges = ⟨false, true, true, 1#4, 1#32⟩ :: [] ∧ s.current = s.target) ∧
    (1 ≤ (250#32 : Word).toNat ∧ (250#32 : Word).toNat ≤ 2 ^ moving.params.periodW - 1) := by decide

theorem witness_ResetStateMeetsTheInvariant :
    Params.Legal { Params.defaults with stepW := 8, tickW := 8, periodW := 2, initPeriod := 3#32 } := by decide

theorem reset_inv : State.Inv State.reset := by
  unfold State.Inv; decide

theorem witness_EveryStepKeepsTheInvariant :
    ∃ t, State.Inv moving ∧ step moving = .next t := by
  refine ⟨_, ?_, rfl⟩
  unfold State.Inv; decide

theorem witness_NoReachableStateLeavesTheIndexRange :
    Params.defaults.Legal ∧ Reachable Params.defaults State.reset :=
  ⟨by decide, Reachable.reset []⟩

end Sys2Proof.Tests
end

section
/-! What one phase of an edge does: the tick phase as two cases, the frames of the two phases, and how an edge is made of
them. -/

namespace Sys2Proof.Machine

/-! ### The tick phase -/

/-- Steps 1 and 2 of the tick write three registers (40_tick.md R111, R112). -/
theorem serviced_eq (s : State) :
    serviced s = { s with
      tickCount := wrap s.params.tickW (s.tickCount.toNat + 1)
      effPeriod := s.cmdPeriod
      cmpLoad := s.cmpLoad || speedChangePending s } := by
  have hpending : speedChangePending (countTick s) = speedChangePending s := rfl
  unfold serviced adoptPeriod
  rw [hpending]
  cases hp : speedChangePending s with
  | true => simp [countTick]
  | false =>
    have heq : s.effPeriod = s.cmdPeriod := by simpa [speedChangePending] using hp
    simp [countTick, ← heq]

/-- A tick that is not active does steps 1 and 2 and sets `halted` on a non-idle tick at an out-of-range index (40_tick.md
R113, R114); an active one steps the motor too. -/
theorem execTick_next_cases {s t : State} (h : execTick s = .next t) :
    (¬ tickIsActive s ∧ t = { serviced s with
      halted := s.halted || (s.current != s.target && decide (cycleLength s.mode ≤ s.stepIdx.toNat)) }) ∨
    (tickIsActive s ∧ ∃ pattern, phaseRom s.params s.mode (advance s.stepIdx s.dir s.mode).toNat = some pattern ∧
      t = emitStep (advance s.stepIdx s.dir s.mode) pattern (serviced s)) := by
  obtain ⟨hidle, ht⟩ | ⟨hmove, hhalt, ht⟩ | ⟨hmove, hrun, hout, ht⟩ | ⟨hmove, hrun, hin, pattern, hp, ht⟩ :=
    execTick_cases s <;> rw [h] at ht <;> cases ht
  · exact .inl ⟨fun hact => hact.1 hidle, by simp [hidle, serviced_eq]⟩
  · refine .inl ⟨fun ⟨_, hrun, _⟩ => by simp [hhalt] at hrun, ?_⟩
    simp [serviced_eq, hhalt]
  · refine .inl ⟨fun ⟨_, _, hin⟩ => by omega, ?_⟩
    simp [hmove, hout]
  · exact .inr ⟨⟨hmove, hrun, hin⟩, pattern, hp, rfl⟩

/-- The registers a tick writes, active or not; the rest is as before (10_state.md R48). -/
theorem execTick_frame {s t : State} (h : execTick s = .next t) :
    t = { s with
      current := t.current, stepIdx := t.stepIdx, coil := t.coil, coilWe := t.coilWe, ovfWarn := t.ovfWarn
      halted := t.halted, tickCount := t.tickCount, effPeriod := t.effPeriod, cmpLoad := t.cmpLoad } := by
  obtain ⟨_, rfl⟩ | ⟨_, pattern, _, rfl⟩ := execTick_next_cases h
  · rw [serviced_eq]
  · rw [serviced_eq]; rfl

theorem execTick_coilWe {s t : State} (h : execTick s = .next t) :
    t.coilWe = (s.coilWe || decide (tickIsActive s)) := by
  obtain ⟨hact, rfl⟩ | ⟨hact, pattern, _, rfl⟩ := execTick_next_cases h
  · rw [decide_eq_false hact]; simp
  · rw [decide_eq_true hact]; simp

theorem execTick_cmpLoad {s t : State} (h : execTick s = .next t) :
    t.cmpLoad = (s.cmpLoad || speedChangePending s) := by
  obtain ⟨_, rfl⟩ | ⟨_, pattern, _, rfl⟩ := execTick_next_cases h <;> simp [serviced_eq]

theorem execTick_ovfWarn {s t : State} (h : execTick s = .next t) :
    t.ovfWarn = (s.ovfWarn || (decide (tickIsActive s) && currentWraps s)) := by
  have hwraps : currentWraps (serviced s) = currentWraps s := by rw [serviced_eq]; rfl
  obtain ⟨hact, rfl⟩ | ⟨hact, pattern, _, rfl⟩ := execTick_next_cases h
  · rw [decide_eq_false hact]; simp
  · rw [decide_eq_true hact, emitStep_ovfWarn, hwraps]; simp

theorem execTick_halted {s t : State} (h : execTick s = .next t) :
    t.halted = (s.halted || (s.current != s.target && decide (cycleLength s.mode ≤ s.stepIdx.toNat))) := by
  obtain ⟨_, rfl⟩ | ⟨⟨_, hrun, hin⟩, pattern, _, rfl⟩ := execTick_next_cases h
  · rfl
  · simp [hrun, hin]

/-! ### The command phase -/

/-- The registers some command writes; the rest is as before, and every command answers (10_state.md R48, R35). -/
theorem exec_command_frame {i : Instr} {s t : State} (hi : i ≠ .tick) (h : exec i s = .next t) :
    t = { s with
      target := t.target, current := t.current, dir := t.dir, mode := t.mode, cmdPeriod := t.cmdPeriod
      stepIdx := t.stepIdx, ovfWarn := t.ovfWarn
      rspValid := true, rspStatus := t.rspStatus, rspData := t.rspData } := by
  obtain ⟨_, rfl, _⟩ | ⟨_, rfl⟩ | ⟨_, _, rfl⟩ | ⟨_, _, rfl⟩ | ⟨_, _, _, rfl⟩ | ⟨_, _, _, rfl⟩ | ⟨_, _, _, _, rfl⟩ |
    ⟨_, _, rfl⟩ := exec_command_cases hi h
  · rfl
  · rfl
  · rfl
  · rfl
  · unfold changeDirection; split <;> rfl
  · rfl
  · rfl
  · rfl

/-! ### The whole edge -/

/-- An edge without reset in an attached state is a tick phase and then a command phase, and it finishes. -/
theorem cycle_phases {e : Edge} {s : State} (hr : e.rst = false) (ha : s.attached = true) :
    ∃ mid t, tickPhase e (beginEdge s) = .next mid ∧ commandPhase e mid = .next t ∧ cycle e s = .next t := by
  obtain ⟨mid, hm⟩ : ∃ mid, tickPhase e (beginEdge s) = .next mid := by
    unfold tickPhase; split
    · exact exec_next _ _
    · exact ⟨_, rfl⟩
  obtain ⟨t, ht⟩ : ∃ t, commandPhase e mid = .next t := by
    unfold commandPhase; split
    · exact exec_next _ _
    · exact ⟨_, rfl⟩
  exact ⟨mid, t, hm, ht, by rw [cycle_run hr ha, hm, andThen_next, ht]⟩

/-- Every edge of an attached state finishes (00_scope.md R11). -/
theorem cycle_next {e : Edge} {s : State} (ha : s.attached = true) : ∃ t, cycle e s = .next t := by
  cases hr : e.rst with
  | true => exact ⟨_, cycle_reset s hr⟩
  | false =>
    obtain ⟨_, t, _, _, h⟩ := cycle_phases hr ha
    exact ⟨t, h⟩

theorem step_reset {s : State} {e : Edge} {rest : List Edge} (he : s.edges = e :: rest) (hr : e.rst = true) :
    step s = .next { State.resetOf s.params with edges := rest } := by
  rw [step_of_edges he, popEdge_eq he, cycle_reset _ hr]
  rfl

end Sys2Proof.Machine
end

section
/-! The machine's invariant: the reset state meets it, and every operation of an edge keeps it. -/

namespace Sys2Proof.Machine

/-- The invariant of a state whose timer has started, one clause per register it speaks of. -/
structure StartedInv (s : State) : Prop where
  legal : s.params.Legal
  attached : s.attached = true
  started : s.started = true
  target_lt : s.target.toNat < 2 ^ s.params.stepW
  current_lt : s.current.toNat < 2 ^ s.params.stepW
  tickCount_lt : s.tickCount.toNat < 2 ^ s.params.tickW
  cmdPeriod_lt : s.cmdPeriod.toNat < 2 ^ s.params.periodW
  effPeriod_lt : s.effPeriod.toNat < 2 ^ s.params.periodW
  cmdPeriod_ne : s.cmdPeriod ≠ 0#32
  effPeriod_ne : s.effPeriod ≠ 0#32
  index : IndexInRange s
  notHalted : s.halted = false
  coil : CoilFromRom s
  response : ResponseLegal s

/-- The model's invariant asks for reset values only before the timer has started (10_state.md R32). -/
theorem StartedInv.inv {s : State} (h : StartedInv s) : s.Inv :=
  ⟨h.legal, h.attached, ⟨h.target_lt, h.current_lt, h.tickCount_lt, h.cmdPeriod_lt, h.effPeriod_lt⟩,
    ⟨h.cmdPeriod_ne, h.effPeriod_ne⟩, h.index, h.notHalted, h.coil, h.response,
    fun hs => absurd (h.started.symm.trans hs) (by decide)⟩

/-! ### Reset -/

theorem resetOf_inv {p : Params} (hp : p.Legal) (edges : List Edge) :
    State.Inv { State.resetOf p with edges := edges } := by
  have ⟨_, _, _, ⟨hpos, hlt⟩, _⟩ := hp
  exact ⟨hp, rfl, ⟨Nat.two_pow_pos _, Nat.two_pow_pos _, Nat.two_pow_pos _, hlt, hlt⟩, ⟨hpos, hpos⟩,
    (by decide : 0 < 8), rfl, .inl rfl, ⟨(by decide : 0#2 ≠ 3#2), fun _ => rfl⟩, fun _ => rfl⟩

/-! ### The operations of an edge -/

namespace StartedInv

theorem beginEdge {s : State} (h : s.Inv) : StartedInv (beginEdge s) := by
  obtain ⟨legal, attached, ⟨target_lt, current_lt, tickCount_lt, cmdPeriod_lt, effPeriod_lt⟩,
    ⟨cmdPeriod_ne, effPeriod_ne⟩, index, notHalted, coil, response, _⟩ := h
  exact { legal, attached, target_lt, current_lt, tickCount_lt, cmdPeriod_lt, effPeriod_lt, cmdPeriod_ne, effPeriod_ne,
          index, notHalted, coil, response, started := rfl }

variable {s : State}

theorem stepW_le (h : StartedInv s) : s.params.stepW ≤ 32 := by
  obtain ⟨⟨_, hw⟩, _⟩ := h.legal
  exact hw

theorem tickW_le (h : StartedInv s) : s.params.tickW ≤ 32 := by
  obtain ⟨_, ⟨_, hw⟩, _⟩ := h.legal
  exact hw

theorem serviced (h : StartedInv s) : StartedInv (serviced s) := by
  rw [serviced_eq]
  exact { h with
    tickCount_lt := wrap_toNat_lt h.tickW_le _
    effPeriod_lt := h.cmdPeriod_lt
    effPeriod_ne := h.cmdPeriod_ne }

theorem emitStep (h : StartedInv s) {i : BitVec 3} {pattern : BitVec 4} (hi : i.toNat < cycleLength s.mode)
    (hp : pattern ∈ s.params.phaseHalf.toList ∨ pattern ∈ s.params.phaseFull.toList) :
    StartedInv (emitStep i pattern s) :=
  { h with
    current_lt := wrap_toNat_lt h.stepW_le _
    index := hi
    coil := .inr hp }

theorem writeResponse (h : StartedInv s) {status : Status} {data : Word} (hs : status ≠ .errQTimeout)
    (hd : status ≠ .ok → data = 0#32) : StartedInv (writeResponse status data s) := by
  have hlegal : status.code ≠ 3#2 ∧ (status.code ≠ 0#2 → data = 0#32) := by
    cases status <;> simp_all [Status.code]
  exact { h with response := hlegal }

theorem respond (h : StartedInv s) (data : Word) : StartedInv (respond data s) :=
  h.writeResponse (by decide) (absurd rfl)

theorem acceptCommand (h : StartedInv s) : StartedInv (acceptCommand s) := h.respond 0#32

theorem addTarget (h : StartedInv s) (a : Nat) : StartedInv (addTarget a s) :=
  { h with target_lt := wrap_toNat_lt h.stepW_le _ }

theorem changeDirection (h : StartedInv s) (d : Direction) : StartedInv (changeDirection d s) := by
  unfold Machine.changeDirection
  split
  · exact h
  · exact { h with current_lt := h.target_lt }

theorem changeMode (h : StartedInv s) (m : Mode) : StartedInv (changeMode m s) :=
  { h with index := clampIndex_toNat_lt m s.stepIdx }

theorem commandPeriod (h : StartedInv s) {period : Word} (h0 : period ≠ 0#32)
    (hlt : period.toNat < 2 ^ s.params.periodW) : StartedInv (commandPeriod period s) :=
  { h with cmdPeriod_lt := hlt, cmdPeriod_ne := h0 }

/-! ### The two phases -/

/-- With the index in range and `halted = 0` a tick has only two cases: idle, or one step of the motor. -/
theorem execTick (h : StartedInv s) {t : State} (ht : execTick s = .next t) : StartedInv t := by
  obtain ⟨_, rfl⟩ | ⟨_, pattern, hp, rfl⟩ := execTick_next_cases ht
  · have hrange : ¬ cycleLength s.mode ≤ s.stepIdx.toNat := Nat.not_le.2 h.index
    exact { h.serviced with notHalted := by simp [h.notHalted, hrange] }
  · refine h.serviced.emitStep ?_ ?_
    · simpa using advance_toNat_lt s.stepIdx s.dir s.mode
    · simpa using phaseRom_mem hp

theorem execCommand (h : StartedInv s) {i : Instr} {t : State} (hi : i ≠ .tick) (ht : exec i s = .next t) :
    StartedInv t := by
  obtain ⟨status, rfl, herr⟩ | ⟨_, rfl⟩ | ⟨_, _, rfl⟩ | ⟨_, _, rfl⟩ | ⟨_, _, _, rfl⟩ | ⟨_, _, _, rfl⟩ |
    ⟨_, _, h0, hlt, rfl⟩ | ⟨_, data, rfl⟩ := exec_command_cases hi ht
  · obtain ⟨_, rfl⟩ | ⟨_, _, rfl⟩ := herr <;> exact h.writeResponse (by decide) fun _ => rfl
  · exact h.acceptCommand
  · exact h.acceptCommand.addTarget _
  · exact h.acceptCommand.addTarget _
  · exact h.acceptCommand.changeDirection _
  · exact h.acceptCommand.changeMode _
  · exact h.acceptCommand.commandPeriod h0 hlt
  · exact h.respond data

end StartedInv

/-! ### Every step -/

/-- An edge is a reset, which loads the reset state, or it starts the timer and runs the two phases. -/
theorem cycle_keeps_inv {e : Edge} {s t : State} (h : s.Inv) (ht : cycle e s = .next t) : t.Inv := by
  obtain ⟨_, rfl⟩ | ⟨_, _, mid, htick, hcmd⟩ := cycle_next_cases ht
  · obtain ⟨legal, _⟩ := h
    exact resetOf_inv legal s.edges
  have hmid : StartedInv mid := by
    obtain ⟨_, hm⟩ | ⟨_, rfl⟩ := htick
    · exact (StartedInv.beginEdge h).execTick hm
    · exact StartedInv.beginEdge h
  obtain ⟨_, hc⟩ | ⟨_, rfl⟩ := hcmd
  · exact (hmid.execCommand (decode_ne_tick _ _) hc).inv
  · exact hmid.inv

/-- Taking the coming edge's inputs touches no register, and a state still at its reset values stays so. -/
theorem popEdge_inv {s : State} (h : s.Inv) : (popEdge s).Inv := by
  obtain ⟨legal, attached, widths, periods, index, notHalted, coil, response, untouched⟩ := h
  exact ⟨legal, attached, widths, periods, index, notHalted, coil, response, fun hs => congrArg popEdge (untouched hs)⟩

/-- Settles O48: every operation of an edge keeps the invariant, clause by clause (`StartedInv`). -/
theorem everyStepKeepsTheInvariant : Obligations.EveryStepKeepsTheInvariant :=
  fun _ _ hinv hstep => cycle_keeps_inv (popEdge_inv hinv) hstep

/-- Settles O47: the reset values are 0 or `INIT_PERIOD`, which legal parameters keep positive and within its width. -/
theorem resetStateMeetsTheInvariant : Obligations.ResetStateMeetsTheInvariant :=
  ⟨resetOf_inv (by decide) [], fun _ edges hp => resetOf_inv hp edges⟩

end Sys2Proof.Machine
end

section
/-! The edge as a whole: reset, the pulses, the sticky bits, and that later inputs are not read. -/

namespace Sys2Proof.Machine

/-! ### Reset edges and the start -/

/-- Settles O6: a reset edge is the reset state of the machine's parameters with the later inputs kept. -/
theorem resetEdgeLoadsEveryResetValue : Obligations.ResetEdgeLoadsEveryResetValue := by
  intro s e rest he hr
  exact ⟨_, step_reset he hr, rfl, rfl, rfl, rfl, rfl, rfl, rfl, rfl, rfl, rfl, rfl, rfl, rfl, rfl, rfl, rfl, rfl, rfl,
    rfl, rfl⟩

/-- Settles O7: `cycle` asks for a reset edge first. -/
theorem noMeaningBeforeTheFirstReset : Obligations.NoMeaningBeforeTheFirstReset := by
  intro s e rest ha he hr
  rw [step_of_edges he]
  simp [cycle, hr, ha]

/-! ### What the two phases of an edge write -/

section
variable {e : Edge} {s t : State}

theorem tickPhase_cases (h : tickPhase e s = .next t) :
    (e.tick = true ∧ execTick s = .next t) ∨ (e.tick = false ∧ t = s) := by
  unfold tickPhase at h
  split at h
  case isTrue htick => exact .inl ⟨htick, h⟩
  case isFalse htick => cases h; exact .inr ⟨by simpa using htick, rfl⟩

theorem commandPhase_cases (h : commandPhase e s = .next t) :
    (e.cmdValid = true ∧ exec (decode e.cmdOp e.cmdArg) s = .next t) ∨ (e.cmdValid = false ∧ t = s) := by
  unfold commandPhase at h
  split at h
  case isTrue hvalid => exact .inl ⟨hvalid, h⟩
  case isFalse hvalid => cases h; exact .inr ⟨by simpa using hvalid, rfl⟩

theorem tickPhase_frame (h : tickPhase e s = .next t) :
    t = { s with
      current := t.current, stepIdx := t.stepIdx, coil := t.coil, coilWe := t.coilWe, ovfWarn := t.ovfWarn
      halted := t.halted, tickCount := t.tickCount, effPeriod := t.effPeriod, cmpLoad := t.cmpLoad } := by
  obtain ⟨_, ht⟩ | ⟨_, rfl⟩ := tickPhase_cases h
  · exact execTick_frame ht
  · rfl

theorem tickPhase_coilWe (h : tickPhase e s = .next t) :
    t.coilWe = (s.coilWe || (e.tick && decide (tickIsActive s))) := by
  obtain ⟨htick, ht⟩ | ⟨htick, rfl⟩ := tickPhase_cases h
  · rw [execTick_coilWe ht, htick, Bool.true_and]
  · rw [htick, Bool.false_and, Bool.or_false]

theorem tickPhase_cmpLoad (h : tickPhase e s = .next t) :
    t.cmpLoad = (s.cmpLoad || (e.tick && speedChangePending s)) := by
  obtain ⟨htick, ht⟩ | ⟨htick, rfl⟩ := tickPhase_cases h
  · rw [execTick_cmpLoad ht, htick, Bool.true_and]
  · rw [htick, Bool.false_and, Bool.or_false]

theorem tickPhase_ovfWarn (h : tickPhase e s = .next t) :
    t.ovfWarn = (s.ovfWarn || (e.tick && decide (tickIsActive s) && currentWraps s)) := by
  obtain ⟨htick, ht⟩ | ⟨htick, rfl⟩ := tickPhase_cases h
  · rw [execTick_ovfWarn ht, htick, Bool.true_and]
  · rw [htick, Bool.false_and, Bool.false_and, Bool.or_false]

theorem tickPhase_halted (h : tickPhase e s = .next t) :
    t.halted = (s.halted || (e.tick && s.current != s.target && decide (cycleLength s.mode ≤ s.stepIdx.toNat))) := by
  obtain ⟨htick, ht⟩ | ⟨htick, rfl⟩ := tickPhase_cases h
  · rw [execTick_halted ht, htick, Bool.true_and]
  · rw [htick, Bool.false_and, Bool.false_and, Bool.or_false]

theorem commandPhase_frame (h : commandPhase e s = .next t) :
    t = { s with
      target := t.target, current := t.current, dir := t.dir, mode := t.mode, cmdPeriod := t.cmdPeriod
      stepIdx := t.stepIdx, ovfWarn := t.ovfWarn
      rspValid := s.rspValid || e.cmdValid, rspStatus := t.rspStatus, rspData := t.rspData } := by
  obtain ⟨hvalid, hc⟩ | ⟨hvalid, rfl⟩ := commandPhase_cases h
  · rw [hvalid, Bool.or_true]
    exact exec_command_frame (decode_ne_tick _ _) hc
  · rw [hvalid, Bool.or_false]

end

/-! ### The pulses -/

/-- Settles O13: the edge preamble clears the pulses, then each phase raises its own. -/
theorem pulsesShowTheEdgeForOneCycle : Obligations.PulsesShowTheEdgeForOneCycle := by
  intro s e rest ha he
  cases hr : e.rst with
  | true => exact ⟨_, step_reset he hr, fun _ => ⟨rfl, rfl, rfl, rfl⟩, by simp⟩
  | false =>
    obtain ⟨mid, t, hm, ht, hstep⟩ := cycle_phases hr (s := popEdge s) ha
    refine ⟨t, (step_of_edges he).trans hstep, by simp, fun _ => ⟨?_, ?_, ?_, ?_, ?_⟩⟩
    · rw [commandPhase_frame ht]
      exact (tickPhase_coilWe hm).trans (Bool.false_or _)
    · rw [commandPhase_frame ht]
      exact tickPhase_cmpLoad hm
    · rw [commandPhase_frame ht, tickPhase_frame hm]
      rfl
    · rw [commandPhase_frame ht, tickPhase_frame hm]
      exact Bool.false_or _
    · intro hv
      obtain ⟨hvalid, _⟩ | ⟨_, rfl⟩ := commandPhase_cases ht
      · simp [hv] at hvalid
      · rw [tickPhase_frame hm]
        exact ⟨rfl, rfl⟩

/-! ### The sticky bits -/

/-- Whether the instruction is an enqueue whose exact sum carries out of STEP_W bits (41_motion_commands.md R141). -/
def enqueueCarry (i : Instr) (s : State) : Bool :=
  match i with
  | .enqSteps count => enqueueCarries (count.toNat * enqueueMultiplier s.mode) s
  | .enqMicro count => enqueueCarries count.toNat s
  | _ => false

/-- A reserved opcode, an illegal command and a query are no enqueue. -/
theorem enqueueCarry_eq_false {i : Instr} {p : Params} (s : State)
    (h : i.isReserved = true ∨ i.legal p = false ∨ i.isQuery = true) : enqueueCarry i s = false := by
  cases i with
  | enqSteps | enqMicro => simp [Instr.isReserved, Instr.legal, Instr.isQuery] at h
  | _ => rfl

/-- Among the commands only an enqueue raises `ovf_warn`. -/
theorem exec_command_ovfWarn {i : Instr} {s t : State} (hi : i ≠ .tick) (h : exec i s = .next t) :
    t.ovfWarn = (s.ovfWarn || enqueueCarry i s) := by
  obtain ⟨_, rfl, herr⟩ | ⟨rfl, rfl⟩ | ⟨_, rfl, rfl⟩ | ⟨_, rfl, rfl⟩ | ⟨_, rfl, _, rfl⟩ | ⟨_, rfl, _, rfl⟩ |
    ⟨_, rfl, _, _, rfl⟩ | ⟨hquery, _, rfl⟩ := exec_command_cases hi h
  · have hcause : i.isReserved = true ∨ i.legal s.params = false := herr.imp (·.1) (·.2.1)
    rw [enqueueCarry_eq_false s (hcause.imp_right .inl), Bool.or_false, raiseStatus_ovfWarn]
  · simp [enqueueCarry]
  · rfl
  · rfl
  · simp [enqueueCarry]
  · simp [enqueueCarry]
  · simp [enqueueCarry]
  · rw [enqueueCarry_eq_false (p := s.params) s (.inr (.inr hquery)), Bool.or_false, respond_ovfWarn]

/-- Opcodes 0x1 and 0x2 are the enqueues (30_encoding.md R84). -/
theorem enqueueCarry_decode (op : BitVec 4) (arg : Word) (s : State) :
    enqueueCarry (decode op arg) s =
      ((op == 1#4 && enqueueCarries (arg.toNat * enqueueMultiplier s.mode) s) ||
        (op == 2#4 && enqueueCarries arg.toNat s)) := by
  by_cases h1 : op = 1#4
  · subst h1; simp [decode, enqueueCarry]
  by_cases h2 : op = 2#4
  · subst h2; simp [decode, enqueueCarry]
  have hno : enqueueCarry (decode op arg) s = false := by
    unfold decode
    split
    case h_2 hop => exact absurd (BitVec.eq_of_toNat_eq hop) h1
    case h_3 hop => exact absurd (BitVec.eq_of_toNat_eq hop) h2
    all_goals rfl
  simp [hno, h1, h2]

theorem commandPhase_ovfWarn {e : Edge} {s t : State} (h : commandPhase e s = .next t) :
    t.ovfWarn = (s.ovfWarn ||
      (e.cmdValid && e.cmdOp == 1#4 && enqueueCarries (e.cmdArg.toNat * enqueueMultiplier s.mode) s) ||
      (e.cmdValid && e.cmdOp == 2#4 && enqueueCarries e.cmdArg.toNat s)) := by
  obtain ⟨hvalid, hc⟩ | ⟨hvalid, rfl⟩ := commandPhase_cases h
  · rw [exec_command_ovfWarn (decode_ne_tick _ _) hc, enqueueCarry_decode]
    simp only [hvalid, Bool.true_and, Bool.or_assoc]
  · simp [hvalid]

theorem enqueueMultiplier_eq_ite (m : Mode) : enqueueMultiplier m = if m = .half then 8 else 4 := by
  cases m <;> rfl

/-- Settles O15: the tick phase sets either bit, the command phase after it only `ovf_warn`, and a tick changes neither
`target` nor the mode that the enqueue reads. -/
theorem stickyBitsAreSetExactlyByTheirCauses : Obligations.StickyBitsAreSetExactlyByTheirCauses := by
  intro s e rest ha he
  cases hr : e.rst with
  | true => exact ⟨_, step_reset he hr, fun _ => ⟨rfl, rfl⟩, by simp⟩
  | false =>
    obtain ⟨mid, t, hm, ht, hstep⟩ := cycle_phases hr (s := popEdge s) ha
    refine ⟨t, (step_of_edges he).trans hstep, by simp, fun _ => ⟨?_, ?_⟩⟩
    · have hcarries : ∀ a, enqueueCarries a mid = enqueueCarries a s := by
        intro a; rw [tickPhase_frame hm]; rfl
      have hmode : mid.mode = s.mode := by rw [tickPhase_frame hm]; rfl
      rw [commandPhase_ovfWarn ht, tickPhase_ovfWarn hm, hcarries, hcarries, hmode, enqueueMultiplier_eq_ite]
      rfl
    · rw [commandPhase_frame ht, tickPhase_halted hm]
      rfl

/-! ### Later inputs -/

section
variable {s t : State} (later : List Edge)

theorem changeDirection_setEdges (d : Direction) (s : State) :
    changeDirection d { s with edges := later } = { changeDirection d s with edges := later } := by
  unfold changeDirection
  split <;> rfl

theorem execTick_setEdges (h : execTick s = .next t) :
    execTick { s with edges := later } = .next { t with edges := later } := by
  have hserviced : serviced { s with edges := later } = { serviced s with edges := later } := by
    rw [serviced_eq s]; exact serviced_eq _
  obtain ⟨t', ht'⟩ := execTick_next { s with edges := later }
  rw [ht']
  obtain ⟨hact, rfl⟩ | ⟨hact, pattern, hp, rfl⟩ := execTick_next_cases h <;>
    obtain ⟨hact', rfl⟩ | ⟨hact', pattern', hp', rfl⟩ := execTick_next_cases ht'
  · rw [hserviced]
  · exact absurd hact' hact
  · exact absurd hact hact'
  · obtain rfl := Option.some.inj (hp.symm.trans hp')
    rw [hserviced]
    rfl

theorem exec_setEdges {i : Instr} (h : exec i s = .next t) :
    exec i { s with edges := later } = .next { t with edges := later } := by
  cases i with
  | tick => exact execTick_setEdges later h
  | setDir arg =>
    simp only [exec, execSetDir] at h ⊢
    split at h <;> cases h
    · exact congrArg _ (changeDirection_setEdges later _ (acceptCommand s))
    · rfl
  | setMode arg =>
    simp only [exec, execSetMode] at h ⊢
    split at h <;> cases h <;> rfl
  | setSpeed period =>
    simp only [exec, execSetSpeed] at h ⊢
    split at h <;> cases h <;> rfl
  | nop | enqSteps | enqMicro | isRunning | isForward | isFullStep | rdTarget | rdCurrent | rdTicks | rdFlags
  | reservedRpmSpeed | reserved7 | reservedF => cases h; rfl

theorem tickPhase_setEdges {e : Edge} (h : tickPhase e s = .next t) :
    tickPhase e { s with edges := later } = .next { t with edges := later } := by
  obtain ⟨htick, ht⟩ | ⟨htick, rfl⟩ := tickPhase_cases h
  · rw [tickPhase, if_pos htick]
    exact execTick_setEdges later ht
  · simp [tickPhase, htick]

theorem commandPhase_setEdges {e : Edge} (h : commandPhase e s = .next t) :
    commandPhase e { s with edges := later } = .next { t with edges := later } := by
  obtain ⟨hvalid, hc⟩ | ⟨hvalid, rfl⟩ := commandPhase_cases h
  · rw [commandPhase, if_pos hvalid]
    exact exec_setEdges later hc
  · simp [commandPhase, hvalid]

end

/-- One next state serves for every list of later inputs, which it carries unread. -/
theorem cycle_setEdges (e : Edge) {s : State} (ha : s.attached = true) :
    ∃ t : State, ∀ later, cycle e { s with edges := later } = .next { t with edges := later } := by
  cases hr : e.rst with
  | true => exact ⟨resetEdge s, fun _ => cycle_reset _ hr⟩
  | false =>
    obtain ⟨mid, t, hm, ht, _⟩ := cycle_phases hr ha
    refine ⟨t, fun later => (cycle_run hr (by exact ha)).trans ?_⟩
    have hmid : tickPhase e (beginEdge { s with edges := later }) = .next { mid with edges := later } :=
      tickPhase_setEdges later hm
    rw [hmid, andThen_next, commandPhase_setEdges later ht]

/-- Settles O12: an edge takes its own inputs off the list and carries the rest along. -/
theorem edgeReadsNoLaterInput : Obligations.EdgeReadsNoLaterInput := by
  intro s e later later' ha
  obtain ⟨t, ht⟩ := cycle_setEdges e ha
  exact ⟨t, (step_of_edges rfl).trans (ht later), (step_of_edges rfl).trans (ht later')⟩

end Sys2Proof.Machine
end

section
/-! What single instructions write and answer, the pending step units, reachability and the output ports. -/

namespace Sys2Proof.Machine

/-! ### Who writes a register -/

theorem mnemonic_ne_tick {i : Instr} (hi : i ≠ .tick) : i.mnemonic ≠ "TICK" := by
  cases i <;> simp [Instr.mnemonic] at hi ⊢

/-- Settles O21: the tick's frame, and for a command the one operation it performs on the registers. -/
theorem registersChangeOnlyByTheirWriters : Obligations.RegistersChangeOnlyByTheirWriters := by
  intro i s
  obtain ⟨t, ht⟩ := exec_next i s
  refine ⟨t, ht, ?_⟩
  by_cases hi : i = .tick
  · subst hi
    rw [execTick_frame ht]
    simp [Instr.mnemonic]
  have hne := mnemonic_ne_tick hi
  obtain ⟨_, rfl, _⟩ | ⟨rfl, rfl⟩ | ⟨_, rfl, rfl⟩ | ⟨_, rfl, rfl⟩ | ⟨_, rfl, _, rfl⟩ | ⟨_, rfl, _, rfl⟩ |
    ⟨_, rfl, _, _, rfl⟩ | ⟨_, _, rfl⟩ := exec_command_cases hi ht
  · simp [hne]
  · simp [Instr.mnemonic]
  · simp [Instr.mnemonic]
  · simp [Instr.mnemonic]
  · simp [Instr.mnemonic]
  · simp [Instr.mnemonic]
  · simp [Instr.mnemonic]
  · simp [hne]

/-! ### Responses -/

/-- Settles O20: no check and no answer of a command reads one of the three registers. -/
theorem responsesDoNotRevealHiddenRegisters : Obligations.ResponsesDoNotRevealHiddenRegisters := by
  intro i s idx st period hi
  cases i with
  | tick => exact absurd rfl hi
  | setDir arg =>
    simp only [exec, execSetDir]
    cases directionOperand arg
    · exact ⟨_, _, rfl, rfl, rfl, rfl, rfl⟩
    · exact ⟨_, _, rfl, rfl, by simp, by simp, by simp⟩
  | setMode arg =>
    simp only [exec, execSetMode]
    cases modeOperand arg <;> exact ⟨_, _, rfl, rfl, rfl, rfl, rfl⟩
  | setSpeed arg =>
    simp only [exec, execSetSpeed]
    cases periodOperand s.params arg <;> exact ⟨_, _, rfl, rfl, rfl, rfl, rfl⟩
  | nop | enqSteps | enqMicro | isRunning | isForward | isFullStep | rdTarget | rdCurrent | rdTicks | rdFlags
  | reservedRpmSpeed | reserved7 | reservedF => exact ⟨_, _, rfl, rfl, rfl, rfl, rfl⟩

/-! ### The idle tick -/

theorem running_eq_false_iff (s : State) : running s = false ↔ s.current = s.target := by simp [running]

/-- Settles O37: an idle tick is steps 1 and 2 alone. -/
theorem idleTickTouchesNoMotion : Obligations.IdleTickTouchesNoMotion := by
  intro s
  refine ⟨running_eq_false_iff s, fun hidle hw => ?_⟩
  obtain ⟨_, ht⟩ | ⟨hmove, _⟩ | ⟨hmove, _⟩ | ⟨hmove, _⟩ := execTick_cases s
  case inl =>
    have hload : (s.cmpLoad || speedChangePending s) = if s.effPeriod ≠ s.cmdPeriod then true else s.cmpLoad := by
      by_cases hp : s.effPeriod = s.cmdPeriod <;> simp [speedChangePending, hp]
    refine ⟨_, ht, ?_, ?_⟩
    · rw [serviced_eq]
      exact wrap_toNat hw _
    · rw [serviced_eq, hload]
  all_goals exact absurd hidle hmove

/-! ### Pending step units -/

/-- `(target - current) mod M` for two counters below `M`, without the modulus. -/
theorem add_sub_mod_eq_ite {T C M : Nat} (hT : T < M) (hC : C < M) :
    (T + M - C) % M = if C ≤ T then T - C else T + M - C := by
  split
  · rw [Nat.sub_add_comm ‹_›, Nat.add_mod_right]
    exact Nat.mod_eq_of_lt (by omega)
  · exact Nat.mod_eq_of_lt (by omega)

/-- An active tick has at least one step unit pending. -/
theorem pending_pos {s : State} (hT : s.target.toNat < 2 ^ s.params.stepW) (hC : s.current.toNat < 2 ^ s.params.stepW)
    (hmove : s.current ≠ s.target) : 0 < pending s := by
  have hne : s.current.toNat ≠ s.target.toNat := fun h => hmove (BitVec.eq_of_toNat_eq h)
  rw [pending, add_sub_mod_eq_ite hT hC]
  split <;> omega

/-- One more step taken is one fewer pending, also across the wrap of `current` (40_tick.md R117). -/
theorem pending_emitStep {s : State} (i : BitVec 3) (pattern : BitVec 4) (hw : s.params.stepW ≤ 32)
    (hT : s.target.toNat < 2 ^ s.params.stepW) (hC : s.current.toNat < 2 ^ s.params.stepW)
    (hmove : s.current ≠ s.target) : pending (emitStep i pattern s) = pending s - 1 := by
  have hne : s.current.toNat ≠ s.target.toNat := fun h => hmove (BitVec.eq_of_toNat_eq h)
  have hC' : (s.current.toNat + 1) % 2 ^ s.params.stepW < 2 ^ s.params.stepW := Nat.mod_lt _ (Nat.two_pow_pos _)
  simp only [pending, emitStep_target, emitStep_current, emitStep_params, wrap_toNat hw]
  rw [add_sub_mod_eq_ite hT hC, add_sub_mod_eq_ite hT hC']
  generalize 2 ^ s.params.stepW = M at *
  obtain hlt | heq : s.current.toNat + 1 < M ∨ s.current.toNat + 1 = M := by omega
  · rw [Nat.mod_eq_of_lt hlt]
    split_ifs <;> omega
  · rw [heq, Nat.mod_self]
    split_ifs <;> omega

/-- An enqueue raises the pending step units by its amount (41_motion_commands.md R141). -/
theorem pending_addTarget {s : State} (a : Nat) (hw : s.params.stepW ≤ 32)
    (hC : s.current.toNat < 2 ^ s.params.stepW) :
    pending (addTarget a s) = (pending s + a) % 2 ^ s.params.stepW := by
  simp only [pending, addTarget_target, addTarget_current, addTarget_params, wrap_toNat hw]
  rw [Nat.add_sub_assoc hC.le, Nat.add_sub_assoc hC.le, Nat.mod_add_mod, Nat.mod_add_mod, Nat.add_right_comm]

theorem pending_eq_zero {s : State} (h : s.current = s.target) : pending s = 0 := by
  simp [pending, h]

/-- The SET_DIR command of a direction has no reserved bit set, so it executes. -/
theorem exec_setDirCommand (d : Direction) (s : State) :
    exec (setDirCommand d) s = .next (changeDirection d (acceptCommand s)) := by
  cases d <;> rfl

theorem opposite_ne (d : Direction) : d.opposite ≠ d := by cases d <;> decide

/-- Settles O29: one lemma for each operation that moves `pending`. -/
theorem pendingIsRaisedLoweredAndCollapsed : Obligations.PendingIsRaisedLoweredAndCollapsed := by
  intro s hw hT hC
  refine ⟨fun hact => ⟨pending_pos hT hC hact.1, ?_⟩, fun count => ⟨_, rfl, ?_⟩, fun count => ⟨_, rfl, ?_⟩, ?_⟩
  · obtain ⟨t, ht⟩ := execTick_next s
    obtain ⟨hidle, _⟩ | ⟨_, pattern, _, rfl⟩ := execTick_next_cases ht
    · exact absurd hact hidle
    · have hserviced : pending (serviced s) = pending s := by rw [serviced_eq]; rfl
      refine ⟨_, ht, ?_⟩
      rw [← hserviced]
      exact pending_emitStep _ _ (by simpa using hw) (by simpa using hT) (by simpa using hC) (by simpa using hact.1)
  · rw [← enqueueMultiplier_eq_ite]
    exact pending_addTarget _ hw hC
  · exact pending_addTarget _ hw hC
  · exact ⟨_, exec_setDirCommand _ s, pending_eq_zero (by simp [opposite_ne])⟩

/-! ### Reachable states -/

theorem exec_params {i : Instr} {s t : State} (h : exec i s = .next t) : t.params = s.params := by
  by_cases hi : i = .tick
  · subst hi
    rw [execTick_frame h]
  · rw [exec_command_frame hi h]

/-- No edge changes the parameters (20_memory.md R61). -/
theorem step_params {s t : State} (h : step s = .next t) : t.params = s.params := by
  obtain ⟨_, rfl⟩ | ⟨_, _, mid, htick, hcmd⟩ := cycle_next_cases h
  · rfl
  have hmid : mid.params = s.params := by
    obtain ⟨_, hm⟩ | ⟨_, rfl⟩ := htick
    · rw [execTick_frame hm]
      rfl
    · rfl
  obtain ⟨_, hc⟩ | ⟨_, rfl⟩ := hcmd
  · exact (exec_params hc).trans hmid
  · exact hmid

/-- A run from a reset edge keeps the invariant and its parameters. -/
theorem reachable_good {p : Params} (hp : p.Legal) {s : State} (h : Reachable p s) : s.Inv ∧ s.params = p :=
  reachable_inv (Good := fun s => s.Inv ∧ s.params = p) (fun edges => ⟨resetOf_inv hp edges, rfl⟩)
    (fun s t ⟨hinv, hparams⟩ ht => ⟨everyStepKeepsTheInvariant s t hinv ht, (step_params ht).trans hparams⟩) h

/-- Settles O49: the invariant along every run, and the finish of every edge of an attached state. -/
theorem noReachableStateLeavesTheIndexRange : Obligations.NoReachableStateLeavesTheIndexRange := by
  intro p s hp hs
  obtain ⟨⟨_, attached, _, _, index, notHalted, _⟩, hparams⟩ := reachable_good hp hs
  refine ⟨index, fun hfull => ?_, notHalted, hparams, cycle_next attached⟩
  rw [IndexInRange, hfull, cycleLength] at index
  generalize s.stepIdx.toNat = k at index
  interval_cases k <;> decide

/-! ### Output ports -/

/-- Settles O46: a port is a register, or one of the three derived bits of 10_state.md R37. -/
theorem outputsShowTheRegisters : Obligations.OutputsShowTheRegisters := by
  intro s
  refine ⟨rfl, rfl, rfl, rfl, rfl, ?_, ?_, ?_, rfl, rfl, rfl, fun k _ => ?_⟩
  · simp [outputs, running]
  · simp [outputs, forward]
  · simp [outputs, fullStep]
  · simp [outputs, terminalEnergized]

end Sys2Proof.Machine
end

section
/-! What one edge runs: the phases in their order on the state the edge preamble left, the presented instruction, and the
phase ROM. -/

namespace Sys2Proof.Machine

/-! ### The order of an edge -/

/-- An edge without reset runs its phases on the state the edge preamble left (20_memory.md R69). -/
theorem step_run {s : State} {e : Edge} {rest : List Edge} (ha : s.attached = true) (he : s.edges = e :: rest)
    (hr : e.rst = false) :
    step s = andThen (tickPhase e (beginEdge { s with edges := rest })) (commandPhase e) := by
  rw [step_of_edges he, popEdge_eq he]
  exact cycle_run hr ha

/-- Settles O9: the tick phase always leaves a state for the command phase to run on. -/
theorem edgeIsResetThenTickThenCommand : Obligations.EdgeIsResetThenTickThenCommand := by
  intro s e rest ha he start
  refine ⟨step_reset he, fun hr => ?_⟩
  obtain ⟨mid, _, hm, -⟩ := cycle_phases (s := { s with edges := rest }) hr ha
  refine ⟨mid, hm, ?_⟩
  rw [step_run ha he hr, hm, andThen_next, commandPhase]

/-! ### The presented instruction -/

section
variable {s : State} {rest : List Edge}

theorem step_command_edge {op : BitVec 4} {arg : Word} (ha : s.attached = true)
    (he : s.edges = ⟨false, false, true, op, arg⟩ :: rest) :
    step s = exec (decode op arg) (beginEdge { s with edges := rest }) :=
  step_run ha he rfl

theorem step_tick_edge {op : BitVec 4} {arg : Word} (ha : s.attached = true)
    (he : s.edges = ⟨false, true, false, op, arg⟩ :: rest) :
    step s = exec .tick (beginEdge { s with edges := rest }) := by
  obtain ⟨t, ht⟩ := exec_next .tick (beginEdge { s with edges := rest })
  rw [step_run ha he rfl, tickPhase, if_pos rfl, ht]
  rfl

/-- With no input left an edge is idle: only the preamble runs. -/
theorem step_no_edge (ha : s.attached = true) (he : s.edges = []) : step s = .next (beginEdge s) := by
  have hpop : popEdge s = s := by rw [popEdge, he, List.tail_nil, ← he]
  rw [step, hpop, nextEdge, he]
  exact cycle_run rfl ha

/-- The decoder reads a presented command back from the command port. -/
theorem presentInstr_command {i : Instr} (hi : i ≠ .tick) :
    ∃ op arg, presentInstr i = ⟨false, false, true, op, arg⟩ ∧ decode op arg = i := by
  cases i with
  | tick => exact absurd rfl hi
  | nop | enqSteps | enqMicro | setDir | setMode | setSpeed | isRunning | isForward | isFullStep | rdTarget | rdCurrent
  | rdTicks | rdFlags | reservedRpmSpeed | reserved7 | reservedF => exact ⟨_, _, rfl, rfl⟩

theorem step_presentInstr {i : Instr} (ha : s.attached = true) (he : s.edges = presentInstr i :: rest) :
    step s = exec i (beginEdge { s with edges := rest }) := by
  by_cases hi : i = .tick
  · subst hi
    exact step_tick_edge ha he
  · obtain ⟨op, arg, hpresent, hdecode⟩ := presentInstr_command hi
    rw [step_command_edge ha (hpresent ▸ he), hdecode]

end

/-- A command word is presented on the command port as its opcode and its argument (30_encoding.md R80). -/
theorem withFetchWord_toNat (s : State) (w : CommandWord) :
    s.withFetchWord 36 w.toNat =
      { s with attached := true, edges := ⟨false, false, true, opOf w, argOf w⟩ :: s.edges.tail } := by
  simp [State.withFetchWord, Nat.mod_eq_of_lt w.isLt, w.isLt]

theorem step_withFetchWord (s : State) (w : CommandWord) :
    step (s.withFetchWord 36 w.toNat) =
      exec (decodeWord w) (beginEdge { s with attached := true, edges := s.edges.tail }) := by
  rw [withFetchWord_toNat]
  exact step_command_edge rfl rfl

/-- Settles O8: an edge that presents one instruction has that phase alone, and the decoder reads back what
`presentInstr` and `withFetchWord` present. -/
theorem stepRunsThePresentedInstruction : Obligations.StepRunsThePresentedInstruction := by
  intro s rest start
  refine ⟨fun ha => ⟨fun _ _ => step_command_edge ha, fun _ _ => step_tick_edge ha,
    fun _ => step_presentInstr ha, ?_⟩, ?_⟩
  · rintro he rfl
    have hstart : beginEdge s = start := by simp only [start, beginEdge, ← he]
    rw [step_no_edge ha he, hstart]
  · rintro w rfl
    exact step_withFetchWord s w

/-! ### The phase ROM -/

theorem phaseRom_eq_none_iff (p : Params) (m : Mode) (idx : Nat) :
    phaseRom p m idx = none ↔ cycleLength m ≤ idx := by
  rw [← Option.not_isSome_iff_eq_none, phaseRom_isSome_iff, Nat.not_lt]

/-- Settles O40: the ROM is a table lookup, and `Advance` keeps the tick's index within the table. -/
theorem phaseRomIsReadOnlyInRange : Obligations.PhaseRomIsReadOnlyInRange := by
  refine ⟨fun p idx => ⟨?_, ?_, ?_, ?_⟩, execTick_next⟩
  · exact fun h => Vector.getElem?_eq_getElem h
  · exact fun h => Vector.getElem?_eq_getElem h
  · exact (phaseRom_eq_none_iff p .half idx).2
  · exact (phaseRom_eq_none_iff p .full idx).2

end Sys2Proof.Machine
end

section
/-! The encoding: what the decoder and the encoder do with an opcode and its argument, and what a row of the opcode table
says about the word that matches it. -/

namespace Sys2Proof

/-! ### Decoding an encoded command -/

@[simp] theorem decodeWord_packCommand (op : BitVec 4) (arg : Word) :
    decodeWord (packCommand op arg) = decode op arg := by
  rw [decodeWord, opOf_packCommand, argOf_packCommand]

/-- Every command has an opcode and an argument, from which the decoder reads it back with its operand. -/
theorem encodeParts_command {i : Instr} (hi : i ≠ .tick) :
    ∃ op arg, encodeParts i = some (op, arg) ∧ decode op arg = i := by
  cases i with
  | tick => exact absurd rfl hi
  | nop | enqSteps | enqMicro | setDir | setMode | setSpeed | isRunning | isForward | isFullStep | rdTarget | rdCurrent
  | rdTicks | rdFlags | reservedRpmSpeed | reserved7 | reservedF => exact ⟨_, _, rfl, rfl⟩

theorem encode_of_encodeParts {i : Instr} {op : BitVec 4} {arg : Word} (h : encodeParts i = some (op, arg)) :
    encode i = some (packCommand op arg) := by
  rw [encode, h, Option.map_some]

/-- A command word fits in any table width of at least 36 bits, so nothing of it is cut off and it is no wide number. -/
theorem decodeTableWord_toNat {nbits : Nat} (hn : 36 ≤ nbits) (cw : CommandWord) :
    decodeTableWord nbits cw.toNat = some (decodeWord cw) := by
  have hfit : cw.toNat < 2 ^ nbits := cw.isLt.trans_le (Nat.pow_le_pow_right (by decide) hn)
  rw [decodeTableWord, Nat.mod_eq_of_lt hfit, decodeNumber, if_pos cw.isLt, BitVec.ofNat_toNat, BitVec.setWidth_eq]
  rfl

/-- Settles O3: packing an opcode and an argument loses neither, and the decoder inverts the opcode map of R84. -/
theorem decodeOfEncodeIsTheInstruction : Obligations.DecodeOfEncodeIsTheInstruction := by
  refine ⟨rfl, fun i hi => ?_⟩
  obtain ⟨op, arg, hparts, hdecode⟩ := encodeParts_command hi
  have hword : decodeWord (packCommand op arg) = i := by rw [decodeWord_packCommand, hdecode]
  refine ⟨packCommand op arg, encode_of_encodeParts hparts, hword, ?_, ?_⟩
  · rw [decodeTableWord_toNat (by decide), hword]
  · rw [decodeTableWord_toNat (by decide), hword]

/-! ### Encoding a decoded command -/

/-- The encoder keeps the opcode, and the argument where the opcode's format has an operand (R81). -/
theorem encodeParts_decode (op : BitVec 4) (arg : Word) :
    encodeParts (decode op arg) = some (op, if 1 ≤ op.toNat ∧ op.toNat ≤ 5 then arg else 0#32) := by
  obtain ⟨n⟩ := op
  fin_cases n <;> rfl

/-- Settles O4: the word's opcode and argument are what the encoder packs again. -/
theorem encodeOfDecodeKeepsOpcodeAndOperand : Obligations.EncodeOfDecodeKeepsOpcodeAndOperand := by
  intro cw
  refine ⟨_, encode_of_encodeParts (encodeParts_decode (opOf cw) (argOf cw)), opOf_packCommand _ _, fun hlo hhi => ?_⟩
  rw [if_pos ⟨hlo, hhi⟩, packCommand_opOf_argOf]

/-! ### The rows of the opcode table -/

/-- The mnemonic depends on the opcode alone (R84: "`cmd_op` alone selects the command"). -/
theorem mnemonic_decode (op : BitVec 4) (arg arg' : Word) :
    (decode op arg).mnemonic = (decode op arg').mnemonic := by
  obtain ⟨n⟩ := op
  fin_cases n <;> rfl

/-- Only format B, the opcodes 0x3 and 0x4, has reserved operand bits (R81). -/
theorem wellFormed_decode_iff (op : BitVec 4) (arg : Word) :
    (decode op arg).wellFormed = true ↔ (op = 0x3#4 ∨ op = 0x4#4 → arg.extractLsb' 1 31 = 0#31) := by
  obtain ⟨n⟩ := op
  fin_cases n <;> simp [decode, Instr.wellFormed]

theorem opOf_and (cw mask : CommandWord) : opOf (cw &&& mask) = opOf cw &&& opOf mask := BitVec.extractLsb'_and

theorem argOf_and (cw mask : CommandWord) : argOf (cw &&& mask) = argOf cw &&& argOf mask := BitVec.extractLsb'_and

/-- Every row's mask holds the whole opcode, so a word that matches the row has the row's opcode. -/
theorem opOf_of_matches {row : TableRow} (hrow : row ∈ opcodeTable) {cw : CommandWord}
    (h : cw &&& row.mask = row.pattern) : opOf cw = opOf row.pattern := by
  have hmask : ∀ row ∈ opcodeTable, opOf row.mask = BitVec.allOnes 4 := by decide
  rw [← h, opOf_and, hmask row hrow, BitVec.and_allOnes]

/-- A format B row's mask holds `arg[31:1]`, so a word that matches the row has these bits 0. -/
theorem reservedBits_of_matches {row : TableRow} (hrow : row ∈ opcodeTable) {cw : CommandWord}
    (h : cw &&& row.mask = row.pattern) (hop : opOf row.pattern = 0x3#4 ∨ opOf row.pattern = 0x4#4) :
    (argOf cw).extractLsb' 1 31 = 0#31 := by
  have hbits : ∀ row ∈ opcodeTable, opOf row.pattern = 0x3#4 ∨ opOf row.pattern = 0x4#4 →
      (argOf row.mask).extractLsb' 1 31 = BitVec.allOnes 31 ∧ (argOf row.pattern).extractLsb' 1 31 = 0#31 := by decide
  obtain ⟨hmask, hpattern⟩ := hbits row hrow hop
  rw [← hpattern, ← h, argOf_and, BitVec.extractLsb'_and, hmask, BitVec.and_allOnes]

/-- Settles O5: a matching word has the row's opcode, which fixes the mnemonic, and no opcode has two rows. -/
theorem tableRowsDecodeToTheirMnemonicAlone : Obligations.TableRowsDecodeToTheirMnemonicAlone := by
  have hmnemonic : ∀ row ∈ opcodeTable, (decode (opOf row.pattern) 0#32).mnemonic = row.mnemonic := by decide
  have hdistinct : opcodeTable.Pairwise fun a b => opOf a.pattern ≠ opOf b.pattern := by decide
  refine ⟨fun row hrow cw h => ⟨?_, ?_⟩, ?_⟩
  · rw [decodeWord, opOf_of_matches hrow h, mnemonic_decode _ _ 0#32, hmnemonic row hrow]
  · rw [decodeWord, opOf_of_matches hrow h, wellFormed_decode_iff]
    exact reservedBits_of_matches hrow h
  · exact hdistinct.imp_of_mem fun ha hb hne cw ⟨hcwa, hcwb⟩ =>
      hne ((opOf_of_matches ha hcwa).symm.trans (opOf_of_matches hb hcwb))

/-- Settles O1: the closed words are decoded by evaluation. -/
theorem writtenOutWordsDecode : Obligations.WrittenOutWordsDecode := by
  unfold Obligations.WrittenOutWordsDecode
  decide

end Sys2Proof
end

section
/-! The answers of the commands: which operands are refused, and that the status says whether the command was legal. -/

namespace Sys2Proof.Machine

/-! ### Illegal operands -/

section
variable {arg : Word} (s : State)

theorem exec_setDir_reservedBits (h : arg.extractLsb' 1 31 ≠ 0#31) :
    exec (.setDir arg) s = .next (raiseStatus .errArg s) := by
  obtain ⟨hclear, _⟩ | ⟨_, hnone⟩ := directionOperand_cases arg
  · exact absurd hclear h
  · simp only [exec, execSetDir, hnone]

theorem exec_setMode_reservedBits (h : arg.extractLsb' 1 31 ≠ 0#31) :
    exec (.setMode arg) s = .next (raiseStatus .errArg s) := by
  obtain ⟨hclear, _⟩ | ⟨_, hnone⟩ := modeOperand_cases arg
  · exact absurd hclear h
  · simp only [exec, execSetMode, hnone]

theorem exec_setSpeed_outOfRange (h : arg = 0#32 ∨ 2 ^ s.params.periodW ≤ arg.toNat) :
    exec (.setSpeed arg) s = .next (raiseStatus .errArg s) := by
  simp only [exec, execSetSpeed, periodOperand, if_pos h]

end

/-! ### The arms of the decoder -/

/-- An argument with clear reserved bits is the format B argument of its bit 0 (R81). -/
theorem bitArgument_getLsbD_zero {arg : Word} (h : arg.extractLsb' 1 31 = 0#31) :
    bitArgument (arg.getLsbD 0) = arg := by
  have hhigh : arg.toNat / 2 % 2 ^ 31 = 0 := by
    simpa [Nat.shiftRight_eq_div_pow] using congrArg BitVec.toNat h
  obtain rfl | rfl : arg = 0#32 ∨ arg = 1#32 := by bv_omega
  · rfl
  · rfl

@[simp] theorem toBit_directionOfBit (b : Bool) : (Direction.ofBit b).toBit = b := by cases b <;> rfl

@[simp] theorem toBit_modeOfBit (b : Bool) : (Mode.ofBit b).toBit = b := by cases b <;> rfl

theorem setDirCommand_ofBit {arg : Word} (h : arg.extractLsb' 1 31 = 0#31) :
    setDirCommand (Direction.ofBit (arg.getLsbD 0)) = .setDir arg := by
  rw [setDirCommand, toBit_directionOfBit, bitArgument_getLsbD_zero h]

theorem setModeCommand_ofBit {arg : Word} (h : arg.extractLsb' 1 31 = 0#31) :
    setModeCommand (Mode.ofBit (arg.getLsbD 0)) = .setMode arg := by
  rw [setModeCommand, toBit_modeOfBit, bitArgument_getLsbD_zero h]

/-- Settles O2: `decode` computes at each opcode; what is left are the two format B commands and their reserved bits. -/
theorem everyOpcodeHasItsArm : Obligations.EveryOpcodeHasItsArm := by
  intro arg s
  exact ⟨rfl, rfl, rfl, fun h => (setDirCommand_ofBit h).symm, exec_setDir_reservedBits s,
    fun h => (setModeCommand_ofBit h).symm, exec_setMode_reservedBits s,
    rfl, rfl, rfl, rfl, rfl, rfl, rfl, rfl, rfl, rfl, rfl⟩

/-! ### The status of a command -/

/-- A query has no operand to refuse (42_query_commands.md R180). -/
theorem isQuery_legal {i : Instr} (h : i.isQuery = true) (p : Params) :
    i ≠ .tick ∧ i.isReserved = false ∧ i.legal p = true := by
  cases i with
  | isRunning | isForward | isFullStep | rdTarget | rdCurrent | rdTicks | rdFlags => exact ⟨nofun, rfl, rfl⟩
  | nop | enqSteps | enqMicro | setDir | setMode | setSpeed | reservedRpmSpeed | reserved7 | reservedF | tick => cases h

/-- A command is refused with the error of its cause and nothing else happens, or it is legal and answers OK, with data
only if it is a query. -/
theorem exec_command_answer {i : Instr} {s t : State} (hi : i ≠ .tick) (h : exec i s = .next t) :
    (i.isReserved = true ∧ t = raiseStatus .errOp s) ∨
    (i.isReserved = false ∧ i.legal s.params = false ∧ t = raiseStatus .errArg s) ∨
    (i.isReserved = false ∧ i.legal s.params = true ∧ t.rspStatus = 0#2 ∧ (i.isQuery = false → t.rspData = 0#32)) := by
  obtain ⟨_, rfl, ⟨hres, rfl⟩ | ⟨hres, hill, rfl⟩⟩ | ⟨rfl, rfl⟩ | ⟨_, rfl, rfl⟩ | ⟨_, rfl, rfl⟩ |
    ⟨_, rfl, hclear, rfl⟩ | ⟨_, rfl, hclear, rfl⟩ | ⟨_, rfl, h0, hlt, rfl⟩ | ⟨hquery, _, rfl⟩ :=
    exec_command_cases hi h
  · exact .inl ⟨hres, rfl⟩
  · exact .inr (.inl ⟨hres, hill, rfl⟩)
  · exact .inr (.inr ⟨rfl, rfl, rfl, fun _ => rfl⟩)
  · exact .inr (.inr ⟨rfl, rfl, rfl, fun _ => rfl⟩)
  · exact .inr (.inr ⟨rfl, rfl, rfl, fun _ => rfl⟩)
  · exact .inr (.inr ⟨rfl, by simp [Instr.legal, Instr.wellFormed, hclear], by simp, by simp⟩)
  · exact .inr (.inr ⟨rfl, by simp [Instr.legal, Instr.wellFormed, hclear], rfl, fun _ => rfl⟩)
  · exact .inr (.inr ⟨rfl, by simp [Instr.legal, h0, hlt], rfl, fun _ => rfl⟩)
  · obtain ⟨_, hres, hlegal⟩ := isQuery_legal hquery s.params
    exact .inr (.inr ⟨hres, hlegal, rfl, by simp [hquery]⟩)

/-- Settles O18: the three answers of a command have three statuses. -/
theorem statusSaysExactlyWhetherTheCommandWasLegal : Obligations.StatusSaysExactlyWhetherTheCommandWasLegal := by
  intro i s hi
  obtain ⟨t, ht⟩ := exec_next i s
  have hvalid : t.rspValid = true := by rw [exec_command_frame hi ht]
  refine ⟨t, ht, hvalid, ?_⟩
  obtain ⟨hres, rfl⟩ | ⟨hres, hill, rfl⟩ | ⟨hres, hlegal, hok, hdata⟩ := exec_command_answer hi ht
  · exact ⟨by simp [hres, Status.code], fun _ => rfl, fun _ => rfl⟩
  · exact ⟨by simp [hres, hill, Status.code], fun _ => rfl, fun _ => rfl⟩
  · exact ⟨by simp [hres, hlegal, hok], hdata, fun herr => absurd hok herr⟩

/-- A legal command completes with status OK. -/
theorem exec_legal_status {i : Instr} {s : State} (hi : i ≠ .tick) (hres : i.isReserved = false)
    (hlegal : i.legal s.params = true) : ∃ t, exec i s = .next t ∧ t.rspStatus = 0#2 := by
  obtain ⟨t, ht, _, hstatus, _⟩ := statusSaysExactlyWhetherTheCommandWasLegal i s hi
  exact ⟨t, ht, by simpa [hres, hlegal] using hstatus⟩

/-- Settles O17: each illegal operand is refused by the command's own check, and the other commands are always legal. -/
theorem illegalOperandsAnswerErrArg : Obligations.IllegalOperandsAnswerErrArg := by
  intro s arg answer
  refine ⟨fun h => ⟨exec_setDir_reservedBits s h, exec_setMode_reservedBits s h⟩, exec_setSpeed_outOfRange s, ?_⟩
  rintro i (rfl | rfl | rfl | hquery)
  · exact exec_legal_status nofun rfl rfl
  · exact exec_legal_status nofun rfl rfl
  · exact exec_legal_status nofun rfl rfl
  · obtain ⟨hi, hres, hlegal⟩ := isQuery_legal hquery s.params
    exact exec_legal_status hi hres hlegal

/-- Settles O16: the reserved arms of the decoder drop the argument, and their meanings raise ERR_OP. -/
theorem reservedOpcodesAnswerErrOp : Obligations.ReservedOpcodesAnswerErrOp :=
  fun _ _ => ⟨⟨rfl, rfl⟩, ⟨rfl, rfl⟩, ⟨rfl, rfl⟩⟩

end Sys2Proof.Machine
end

section
/-! The tick: the counter and the period it services, the step index and its inverse moves, and the ticks of an edge and
of an idle block. -/

namespace Sys2Proof.Machine

/-! ### Steps 1 and 2 of the tick -/

theorem execTick_tickCount {s t : State} (h : execTick s = .next t) :
    t.tickCount = wrap s.params.tickW (s.tickCount.toNat + 1) := by
  obtain ⟨_, rfl⟩ | ⟨_, pattern, _, rfl⟩ := execTick_next_cases h <;> simp

theorem execTick_effPeriod {s t : State} (h : execTick s = .next t) : t.effPeriod = s.cmdPeriod := by
  obtain ⟨_, rfl⟩ | ⟨_, pattern, _, rfl⟩ := execTick_next_cases h <;> simp

theorem cmpLoad_or_speedChangePending (s : State) :
    (s.cmpLoad || speedChangePending s) = if s.effPeriod ≠ s.cmdPeriod then true else s.cmpLoad := by
  by_cases hp : s.effPeriod = s.cmdPeriod <;> simp [speedChangePending, hp]

/-- Settles O36: the tick services in each of its cases, and no command's frame has `eff_period`. -/
theorem everyTickCountsAndAdoptsThePeriod : Obligations.EveryTickCountsAndAdoptsThePeriod := by
  refine ⟨fun s hw => ?_, fun i s hi => ?_⟩
  · obtain ⟨t, ht⟩ := execTick_next s
    refine ⟨t, ht, ?_, execTick_effPeriod ht, ?_⟩
    · rw [execTick_tickCount ht, wrap_toNat hw]
    · rw [execTick_cmpLoad ht, cmpLoad_or_speedChangePending]
  · obtain ⟨t, ht⟩ := exec_next i s
    exact ⟨t, ht, by rw [exec_command_frame hi ht]⟩

/-- Settles O39: a halted block and an out-of-range index are no active tick, and `halted` is 1 after it. -/
theorem haltedTickDoesNotStep : Obligations.HaltedTickDoesNotStep := by
  intro s hmove hw hstop
  obtain ⟨t, ht⟩ := execTick_next s
  refine ⟨t, ht, by rw [execTick_tickCount ht, wrap_toNat hw], ?_⟩
  obtain ⟨_, rfl⟩ | ⟨⟨_, hrun, hin⟩, _⟩ := execTick_next_cases ht
  · have hhalt : (s.halted || (s.current != s.target && decide (cycleLength s.mode ≤ s.stepIdx.toNat))) = true := by
      obtain hhalted | hout := hstop
      · simp [hhalted]
      · simp [hmove, hout]
    rw [hhalt, serviced_eq, cmpLoad_or_speedChangePending]
  · obtain hhalted | hout := hstop
    · simp [hrun] at hhalted
    · exact absurd hin (Nat.not_lt.2 hout)

/-! ### The step index -/

/-- What `Advance` adds to the index, modulo the cycle length (40_tick.md R115). -/
def stride : Direction → Mode → Nat
  | .forward, _ => 1
  | .backward, m => cycleLength m - 1

theorem advance_toNat (i : BitVec 3) (d : Direction) (m : Mode) :
    (advance i d m).toNat = (i.toNat + stride d m) % cycleLength m := by
  cases d with
  | forward => exact advance_forward_toNat i m
  | backward => rw [advance_backward_toNat, Nat.add_sub_assoc (cycleLength_pos m)]; rfl

theorem stride_add_opposite (d : Direction) (m : Mode) : stride d m + stride d.opposite m = cycleLength m := by
  cases d <;> cases m <;> rfl

theorem advance_advance_opposite {i : BitVec 3} {m : Mode} (d : Direction) (h : i.toNat < cycleLength m) :
    advance (advance i d m) d.opposite m = i := by
  apply BitVec.eq_of_toNat_eq
  rw [advance_toNat, advance_toNat, Nat.mod_add_mod, Nat.add_assoc, stride_add_opposite, Nat.add_mod_right,
    Nat.mod_eq_of_lt h]

theorem advance_iterate_toNat {i : BitVec 3} {m : Mode} (d : Direction) (h : i.toNat < cycleLength m) (k : Nat) :
    ((advance · d m)^[k] i).toNat = (i.toNat + k * stride d m) % cycleLength m := by
  induction k with
  | zero => simp [Nat.mod_eq_of_lt h]
  | succ k ih => rw [Function.iterate_succ_apply', advance_toNat, ih, Nat.mod_add_mod, Nat.succ_mul, Nat.add_assoc]

/-- `L(m)` steps in one direction are a whole cycle. -/
theorem advance_iterate_cycleLength {i : BitVec 3} {m : Mode} (d : Direction) (h : i.toNat < cycleLength m) :
    (advance · d m)^[cycleLength m] i = i := by
  apply BitVec.eq_of_toNat_eq
  rw [advance_iterate_toNat d h, Nat.add_mul_mod_self_left, Nat.mod_eq_of_lt h]

/-! ### The active tick -/

theorem execTick_active {s : State} (h : tickIsActive s) :
    ∃ pattern, phaseRom s.params s.mode (advance s.stepIdx s.dir s.mode).toNat = some pattern ∧
      execTick s = .next (emitStep (advance s.stepIdx s.dir s.mode) pattern (serviced s)) := by
  obtain ⟨t, ht⟩ := execTick_next s
  obtain ⟨hidle, _⟩ | ⟨_, pattern, hp, rfl⟩ := execTick_next_cases ht
  · exact absurd h hidle
  · exact ⟨pattern, hp, ht⟩

/-- Settles O38: an active tick is `emitStep` on the serviced state. -/
theorem activeTickStepsTheMotor : Obligations.ActiveTickStepsTheMotor := by
  intro s hmove hrun hin hstep htick
  obtain ⟨pattern, hp, ht⟩ := execTick_active ⟨hmove, hrun, hin⟩
  refine ⟨_, ht, ?_, hp, ?_, ?_, ?_, ?_⟩
  · cases s.dir with
    | forward => simp [advance_forward_toNat]
    | backward => simp [advance_backward_toNat]
  · simp [wrap_toNat hstep]
  · rw [serviced_eq]; rfl
  · simp [wrap_toNat htick]
  · rw [serviced_eq, cmpLoad_or_speedChangePending]; rfl

/-- Settles O41: the two directions' strides add up to a cycle, so the second tick is at the index before the first. -/
theorem retreatingRepeatsTheEarlierPattern : Obligations.RetreatingRepeatsTheEarlierPattern := by
  refine ⟨fun p m i h => ?_, fun s t goal hact hd ht hgoal => ?_⟩
  · have hback : advance (advance i .backward m) .forward m = i := advance_advance_opposite .backward h
    exact ⟨hback, advance_advance_opposite .forward h, by rw [hback]⟩
  · obtain ⟨pattern, _, ht'⟩ := execTick_active hact
    obtain rfl : t = _ := Host.Outcome.next.inj (ht.symm.trans ht')
    obtain ⟨_, hrun, hin⟩ := hact
    have hindex : advance (advance s.stepIdx s.dir s.mode) .backward s.mode = s.stepIdx := by
      rw [hd]; exact advance_advance_opposite .forward hin
    obtain ⟨pattern', hp', hu⟩ := execTick_active
      (s := { emitStep (advance s.stepIdx s.dir s.mode) pattern (serviced s) with dir := .backward, target := goal })
      ⟨hgoal, by simpa using hrun, by simpa using advance_toNat_lt s.stepIdx s.dir s.mode⟩
    exact ⟨_, hu, by simpa using hindex, by simpa [hindex] using hp'⟩

/-! ### One edge of a run -/

/-- `step` at an edge without reset, as its two phases; the environment's fields are passed on. -/
theorem step_phases {s : State} {e : Edge} {rest : List Edge} (ha : s.attached = true) (he : s.edges = e :: rest)
    (hr : e.rst = false) :
    ∃ mid t, tickPhase e (beginEdge { s with edges := rest }) = .next mid ∧ commandPhase e mid = .next t ∧
      step s = .next t ∧ t.attached = true ∧ t.params = s.params ∧ t.edges = rest := by
  obtain ⟨mid, t, hm, ht, hstep⟩ := cycle_phases (s := { s with edges := rest }) hr ha
  refine ⟨mid, t, hm, ht, by rw [step_of_edges he, popEdge_eq he, hstep], ?_⟩
  rw [commandPhase_frame ht, tickPhase_frame hm]
  exact ⟨ha, rfl, rfl⟩

theorem tickPhase_tickCount {e : Edge} {s t : State} (h : tickPhase e s = .next t) :
    t.tickCount = if e.tick then wrap s.params.tickW (s.tickCount.toNat + 1) else s.tickCount := by
  obtain ⟨htick, ht⟩ | ⟨htick, rfl⟩ := tickPhase_cases h
  · rw [execTick_tickCount ht, if_pos htick]
  · simp [htick]

/-- Settles O10: both phases answer, and the command phase does not write `tick_count`. -/
theorem everyEdgeFinishesAndCountsItsTick : Obligations.EveryEdgeFinishesAndCountsItsTick := by
  intro s e rest ha he hw
  cases hr : e.rst with
  | true => exact ⟨_, step_reset he hr, rfl, rfl, rfl, by simp, by simp⟩
  | false =>
    obtain ⟨mid, t, hm, ht, hstep, hattached, hparams, hrest⟩ := step_phases ha he hr
    have hcount : t.tickCount = if e.tick then wrap s.params.tickW (s.tickCount.toNat + 1) else s.tickCount :=
      calc t.tickCount = mid.tickCount := by rw [commandPhase_frame ht]
        _ = _ := tickPhase_tickCount hm
    refine ⟨t, hstep, hattached, hparams, hrest, fun _ htick => ?_, fun _ htick => ?_⟩
    · rw [hcount, if_pos htick, wrap_toNat hw]
    · simp [hcount, htick]

/-- Settles O11, by induction on the edges; the first tick brings `tick_count` below `2^TICK_W`. -/
theorem tickHeldHighCountsEveryEdge : Obligations.TickHeldHighCountsEveryEdge := by
  intro s es rest ha hw hne hes he
  induction es generalizing s with
  | nil => exact absurd rfl hne
  | cons e es ih =>
    obtain ⟨⟨hr, htick⟩, hes⟩ := List.forall_mem_cons.1 hes
    obtain ⟨t, hstep, hattached, hparams, hrest, hcount, _⟩ := everyEdgeFinishesAndCountsItsTick s e _ ha he hw
    rw [List.length_cons, run_succ_of_step hstep]
    obtain rfl | hne := eq_or_ne es []
    · exact ⟨t, rfl, hrest, hcount hr htick⟩
    · obtain ⟨u, hrun, hedges, hu⟩ := ih t hattached (hparams ▸ hw) hne hes hrest
      refine ⟨u, hrun, hedges, ?_⟩
      rw [hu, hparams, hcount hr htick, Nat.mod_add_mod, Nat.add_assoc, Nat.add_comm 1]

/-! ### Idle ticks -/

theorem execTick_idle {s : State} (h : s.current = s.target) : execTick s = .next (serviced s) := by
  obtain ⟨_, ht⟩ | ⟨hmove, _⟩ | ⟨hmove, _⟩ | ⟨hmove, _⟩ := execTick_cases s
  case inl => exact ht
  all_goals exact absurd h hmove

/-- Ticks of an idle block, the first of which ends a `coil_we` pulse. -/
theorem run_idle_ticks {k : Nat} {s : State} {rest : List Edge} (ha : s.attached = true) (hidle : s.current = s.target)
    (he : s.edges = List.replicate k tickEdge ++ rest) :
    ∃ t, run k s = .next t ∧ t.stepIdx = s.stepIdx ∧ t.coil = s.coil ∧ t.current = t.target ∧
      t.coilWe = (k == 0 && s.coilWe) := by
  induction k generalizing s with
  | zero => exact ⟨s, rfl, rfl, rfl, hidle, by simp⟩
  | succ k ih =>
    have hstep : step s = .next (serviced (beginEdge { s with edges := List.replicate k tickEdge ++ rest })) :=
      (step_presentInstr ha he).trans (execTick_idle hidle)
    rw [run_succ_of_step hstep]
    obtain ⟨t, hrun, hindex, hcoil, hcurrent, hwe⟩ :=
      ih (s := serviced (beginEdge { s with edges := List.replicate k tickEdge ++ rest })) (by simpa using ha)
        (by simpa using hidle) (by simp)
    exact ⟨t, hrun, by simpa using hindex, by simpa using hcoil, hcurrent, by simpa using hwe⟩

/-- Settles O42: idle ticks alone keep the block idle. -/
theorem repeatedIdleTicksWriteNoCoil : Obligations.RepeatedIdleTicksWriteNoCoil := by
  intro k s rest ha hidle he
  obtain ⟨t, hrun, hindex, hcoil, hcurrent, hwe⟩ := run_idle_ticks ha hidle he
  exact ⟨t, hrun, hindex, hcoil, hcurrent, fun hk => by simp [hwe, hk.ne']⟩

end Sys2Proof.Machine
end

section
/-! The motor over a run: a whole cycle of active ticks, and how many ticks the pending step units take. -/

namespace Sys2Proof.Machine

/-! ### What a command leaves to the motor -/

/-- An opcode and, where the opcode's format has one, an operand decode to nothing but their own command (R84). -/
theorem opcode_operand_of_decode_eq {op op' : BitVec 4} {arg arg' : Word} {i : Instr} (h : decode op arg = i)
    (hi : encodeParts i = some (op', arg')) : op = op' ∧ (1 ≤ op.toNat → op.toNat ≤ 5 → arg = arg') := by
  rw [← h, encodeParts_decode, Option.some.injEq, Prod.mk.injEq] at hi
  obtain ⟨hop, harg⟩ := hi
  exact ⟨hop, fun hlo hhi => by rwa [if_pos ⟨hlo, hhi⟩] at harg⟩

/-- Only a SET_MODE that executes writes the mode, and no other command the index. -/
theorem exec_command_mode_cases {i : Instr} {s t : State} (hi : i ≠ .tick) (h : exec i s = .next t) :
    (t.mode = s.mode ∧ t.stepIdx = s.stepIdx) ∨ ∃ arg, i = .setMode arg ∧ arg.extractLsb' 1 31 = 0#31 := by
  obtain ⟨_, rfl, _⟩ | ⟨_, rfl⟩ | ⟨_, _, rfl⟩ | ⟨_, _, rfl⟩ | ⟨_, _, _, rfl⟩ | ⟨arg, hmode, hclear, _⟩ | ⟨_, _, _, _, rfl⟩ |
    ⟨_, _, rfl⟩ := exec_command_cases hi h
  · exact .inl ⟨rfl, rfl⟩
  · exact .inl ⟨rfl, rfl⟩
  · exact .inl ⟨rfl, rfl⟩
  · exact .inl ⟨rfl, rfl⟩
  · exact .inl (by simp)
  · exact .inr ⟨arg, hmode, hclear⟩
  · exact .inl ⟨rfl, rfl⟩
  · exact .inl ⟨rfl, rfl⟩

/-- Only an enqueue, or a SET_DIR that executes and changes the direction, writes a counter or the direction. -/
theorem exec_command_motion_cases {i : Instr} {s t : State} (hi : i ≠ .tick) (h : exec i s = .next t) :
    (t.target = s.target ∧ t.current = s.current ∧ t.dir = s.dir) ∨
    (∃ count, i = .enqSteps count) ∨ (∃ count, i = .enqMicro count) ∨
    ∃ arg, i = .setDir arg ∧ arg.extractLsb' 1 31 = 0#31 ∧ Direction.ofBit (arg.getLsbD 0) ≠ s.dir := by
  obtain ⟨_, rfl, _⟩ | ⟨_, rfl⟩ | ⟨count, hsteps, _⟩ | ⟨count, hmicro, _⟩ | ⟨arg, hdir, hclear, rfl⟩ | ⟨_, _, _, rfl⟩ |
    ⟨_, _, _, _, rfl⟩ | ⟨_, _, rfl⟩ := exec_command_cases hi h
  · exact .inl ⟨rfl, rfl, rfl⟩
  · exact .inl ⟨rfl, rfl, rfl⟩
  · exact .inr (.inl ⟨count, hsteps⟩)
  · exact .inr (.inr (.inl ⟨count, hmicro⟩))
  · by_cases hsame : Direction.ofBit (arg.getLsbD 0) = s.dir
    · rw [changeDirection, acceptCommand_dir, if_pos hsame]
      exact .inl ⟨rfl, rfl, rfl⟩
    · exact .inr (.inr (.inr ⟨arg, hdir, hclear, hsame⟩))
  · exact .inl ⟨rfl, rfl, rfl⟩
  · exact .inl ⟨rfl, rfl, rfl⟩
  · exact .inl ⟨rfl, rfl, rfl⟩

/-- An edge without reset and without a SET_MODE that executes. -/
abbrev KeepsMode (e : Edge) : Prop :=
  e.rst = false ∧ (e.cmdValid = true → e.cmdOp = 0x4#4 → e.cmdArg.extractLsb' 1 31 ≠ 0#31)

/-- No command of the edge enqueues or changes the direction `d`. -/
abbrev KeepsPending (d : Direction) (e : Edge) : Prop :=
  e.cmdValid = true → e.cmdOp ≠ 0x1#4 ∧ e.cmdOp ≠ 0x2#4 ∧
    (e.cmdOp = 0x3#4 → e.cmdArg.extractLsb' 1 31 ≠ 0#31 ∨ Direction.ofBit (e.cmdArg.getLsbD 0) = d)

section
variable {e : Edge} {s t : State}

theorem commandPhase_keepsMode (he : KeepsMode e) (h : commandPhase e s = .next t) :
    t.mode = s.mode ∧ t.stepIdx = s.stepIdx := by
  obtain ⟨hvalid, hc⟩ | ⟨_, rfl⟩ := commandPhase_cases h
  · obtain hsame | ⟨arg, hi, hclear⟩ := exec_command_mode_cases (decode_ne_tick _ _) hc
    · exact hsame
    · obtain ⟨hop, harg⟩ := opcode_operand_of_decode_eq hi rfl
      rw [← harg (by simp [hop]) (by simp [hop])] at hclear
      exact absurd hclear (he.2 hvalid hop)
  · exact ⟨rfl, rfl⟩

theorem commandPhase_keepsPending (he : KeepsPending s.dir e) (h : commandPhase e s = .next t) :
    t.target = s.target ∧ t.current = s.current ∧ t.dir = s.dir := by
  obtain ⟨hvalid, hc⟩ | ⟨_, rfl⟩ := commandPhase_cases h
  · obtain ⟨hsteps, hmicro, hdir⟩ := he hvalid
    obtain hsame | ⟨_, hi⟩ | ⟨_, hi⟩ | ⟨arg, hi, hclear, hne⟩ := exec_command_motion_cases (decode_ne_tick _ _) hc
    · exact hsame
    · exact absurd (opcode_operand_of_decode_eq hi rfl).1 hsteps
    · exact absurd (opcode_operand_of_decode_eq hi rfl).1 hmicro
    · obtain ⟨hop, harg⟩ := opcode_operand_of_decode_eq hi rfl
      obtain rfl := harg (by simp [hop]) (by simp [hop])
      obtain hreserved | hsame := hdir hop
      · exact absurd hclear hreserved
      · exact absurd hsame hne
  · exact ⟨rfl, rfl, rfl⟩

end

/-! ### A cycle of active ticks -/

theorem tickPhase_motor_cases {e : Edge} {s t : State} (h : tickPhase e s = .next t) :
    ((e.tick && decide (tickIsActive s)) = false ∧ t.stepIdx = s.stepIdx) ∨
    ((e.tick && decide (tickIsActive s)) = true ∧ t.stepIdx = advance s.stepIdx s.dir s.mode ∧
      phaseRom s.params s.mode t.stepIdx.toNat = some t.coil) := by
  obtain ⟨htick, ht⟩ | ⟨htick, rfl⟩ := tickPhase_cases h
  · obtain ⟨hact, rfl⟩ | ⟨hact, pattern, hp, rfl⟩ := execTick_next_cases ht
    · exact .inl ⟨by simp [decide_eq_false hact], by simp⟩
    · exact .inr ⟨by simp [htick, decide_eq_true hact], rfl, hp⟩
  · exact .inl ⟨by simp [htick], rfl⟩

theorem activeTickDirections_succ_of_edge {s t : State} {e : Edge} {rest : List Edge} (he : s.edges = e :: rest)
    (hr : e.rst = false) (hstep : step s = .next t) (n : Nat) :
    activeTickDirections (n + 1) s =
      (if e.tick && decide (tickIsActive s) then [s.dir] else []) ++ activeTickDirections n t := by
  have hedge : nextEdge s = e := by simp [nextEdge, he]
  rw [activeTickDirections_succ hstep, hedge, hr, Bool.not_false, Bool.and_true]

/-- What one edge does to the motor and adds to the two lists of a run: nothing, or one step of the motor, its direction
and its pattern. -/
theorem step_motor_cases {s : State} {e : Edge} {rest : List Edge} (ha : s.attached = true)
    (he : s.edges = e :: rest) (hkeep : KeepsMode e) :
    ∃ t, step s = .next t ∧ t.attached = true ∧ t.params = s.params ∧ t.edges = rest ∧ t.mode = s.mode ∧
      ((t.stepIdx = s.stepIdx ∧ ∀ n, activeTickDirections (n + 1) s = activeTickDirections n t ∧
          coilWrites (n + 1) s = coilWrites n t) ∨
        (IndexInRange s ∧ t.stepIdx = advance s.stepIdx s.dir s.mode ∧
          phaseRom s.params s.mode t.stepIdx.toNat = some t.coil ∧
          ∀ n, activeTickDirections (n + 1) s = s.dir :: activeTickDirections n t ∧
            coilWrites (n + 1) s = t.coil :: coilWrites n t)) := by
  obtain ⟨mid, t, hm, ht, hstep, hattached, hparams, hrest⟩ := step_phases ha he hkeep.1
  obtain ⟨hmode, hindex⟩ := commandPhase_keepsMode hkeep ht
  have hcoil : t.coil = mid.coil := by rw [commandPhase_frame ht]
  have hwe : t.coilWe = (e.tick && decide (tickIsActive s)) :=
    calc t.coilWe = mid.coilWe := by rw [commandPhase_frame ht]
      _ = _ := (tickPhase_coilWe hm).trans (Bool.false_or _)
  have hdirs := activeTickDirections_succ_of_edge he hkeep.1 hstep
  refine ⟨t, hstep, hattached, hparams, hrest, by rw [hmode, tickPhase_frame hm]; rfl, ?_⟩
  obtain ⟨hact, hstill⟩ | ⟨hact, hadvance, hp⟩ := tickPhase_motor_cases hm
  · change (e.tick && decide (tickIsActive s)) = false at hact
    exact .inl ⟨hindex.trans hstill, fun n =>
      ⟨by rw [hdirs, hact]; rfl, by rw [coilWrites_succ hstep, hwe, hact]; rfl⟩⟩
  · change (e.tick && decide (tickIsActive s)) = true at hact
    have hin : IndexInRange s := by
      obtain ⟨_, _, hin⟩ := of_decide_eq_true (Bool.and_eq_true_iff.1 hact).2
      exact hin
    exact .inr ⟨hin, hindex.trans hadvance, by rw [hindex, hcoil]; exact hp, fun n =>
      ⟨by rw [hdirs, hact]; rfl, by rw [coilWrites_succ hstep, hwe, hact]; rfl⟩⟩

/-- A run of active ticks in one direction: the index and the patterns after each of them. -/
theorem run_active_ticks {s : State} {es rest : List Edge} {k : Nat} {d : Direction} (ha : s.attached = true)
    (he : s.edges = es ++ rest) (hkeep : ∀ e ∈ es, KeepsMode e)
    (hd : activeTickDirections es.length s = List.replicate k d) :
    (0 < k → IndexInRange s) ∧
    (∃ t, run es.length s = .next t ∧ t.mode = s.mode ∧ t.stepIdx = (advance · d s.mode)^[k] s.stepIdx) ∧
    (coilWrites es.length s).map some =
      (List.range k).map fun j => phaseRom s.params s.mode ((advance · d s.mode)^[j + 1] s.stepIdx).toNat := by
  induction es generalizing s k with
  | nil =>
    obtain rfl : k = 0 := by simpa using hd
    exact ⟨nofun, ⟨s, rfl, rfl, rfl⟩, rfl⟩
  | cons e es ih =>
    obtain ⟨hkeep, hkeeps⟩ := List.forall_mem_cons.1 hkeep
    obtain ⟨t, hstep, hattached, hparams, hrest, hmode, hmotor⟩ := step_motor_cases ha he hkeep
    rw [List.length_cons] at hd ⊢
    rw [run_succ_of_step hstep]
    obtain ⟨hindex, hlists⟩ | ⟨hin, hindex, hp, hlists⟩ := hmotor
    · obtain ⟨hdirs, hwrites⟩ := hlists es.length
      rw [hwrites, ← hindex, ← hparams, ← hmode, IndexInRange, ← hindex, ← hmode]
      exact ih hattached hrest hkeeps (hdirs ▸ hd)
    · obtain ⟨hdirs, hwrites⟩ := hlists es.length
      rw [hdirs] at hd
      cases k with
      | zero => cases hd
      | succ k =>
        obtain ⟨rfl, hd⟩ := List.cons.inj hd
        obtain ⟨_, ⟨u, hrun, hmode', hindex'⟩, hpatterns⟩ := ih hattached hrest hkeeps hd
        refine ⟨fun _ => hin, ⟨u, hrun, hmode'.trans hmode, ?_⟩, ?_⟩
        · rw [hindex', hmode, hindex, Function.iterate_succ_apply]
        · rw [hwrites, List.map_cons, hpatterns, ← hp, List.range_succ_eq_map, List.map_cons, List.map_map, hmode, hparams,
            hindex]
          rfl

/-! ### Pending step units -/

/-- A block that steps at every tick as long as step units are pending. -/
structure Steppable (s : State) : Prop where
  attached : s.attached = true
  stepW_le : s.params.stepW ≤ 32
  target_lt : s.target.toNat < 2 ^ s.params.stepW
  current_lt : s.current.toNat < 2 ^ s.params.stepW
  notHalted : s.halted = false
  index : IndexInRange s

namespace Steppable

variable {s : State}

theorem tickIsActive_iff (h : Steppable s) : tickIsActive s ↔ 0 < pending s :=
  ⟨fun ⟨hmove, _⟩ => pending_pos h.target_lt h.current_lt hmove,
    fun hp => ⟨fun hidle => hp.ne' (pending_eq_zero hidle), h.notHalted, h.index⟩⟩

theorem current_eq_target_iff (h : Steppable s) : s.current = s.target ↔ pending s = 0 := by
  refine ⟨pending_eq_zero, fun hp => ?_⟩
  by_contra hmove
  exact (pending_pos h.target_lt h.current_lt hmove).ne' hp

theorem execTick_pending (h : Steppable s) {t : State} (ht : execTick s = .next t) :
    Steppable t ∧ pending t = pending s - 1 := by
  have hserviced : Steppable (serviced s) ∧ pending (serviced s) = pending s := by
    rw [serviced_eq]
    exact ⟨{ h with }, rfl⟩
  obtain ⟨hs, hpending⟩ := hserviced
  obtain ⟨hidle, rfl⟩ | ⟨hact, pattern, _, rfl⟩ := execTick_next_cases ht
  · have hrange : ¬ cycleLength s.mode ≤ s.stepIdx.toNat := Nat.not_le.2 h.index
    have hzero : pending s = 0 := Nat.eq_zero_of_not_pos (mt h.tickIsActive_iff.2 hidle)
    refine ⟨{ hs with notHalted := by simp [h.notHalted, hrange] }, ?_⟩
    calc _ = pending (serviced s) := rfl
      _ = pending s - 1 := by rw [hpending, hzero]
  · obtain ⟨hmove, _⟩ := hact
    refine ⟨{ hs with current_lt := wrap_toNat_lt hs.stepW_le _, index := ?_ }, ?_⟩
    · simpa using advance_toNat_lt s.stepIdx s.dir s.mode
    · rw [pending_emitStep _ _ hs.stepW_le hs.target_lt hs.current_lt (by simpa using hmove), hpending]

/-- One edge that enqueues nothing and keeps the mode and the direction: a tick takes one step unit, if one is pending. -/
theorem step_pending (h : Steppable s) {e : Edge} {rest : List Edge} (he : s.edges = e :: rest) (hmode : KeepsMode e)
    (hkeep : KeepsPending s.dir e) :
    ∃ t, step s = .next t ∧ Steppable t ∧ t.edges = rest ∧ t.target = s.target ∧ t.dir = s.dir ∧
      pending t = pending s - e.tick.toNat := by
  obtain ⟨mid, t, hm, ht, hstep, hattached, hparams, hrest⟩ := step_phases h.attached he hmode.1
  have hdir : mid.dir = s.dir := by rw [tickPhase_frame hm]; rfl
  have htarget : mid.target = s.target := by rw [tickPhase_frame hm]; rfl
  obtain ⟨hmid, hpending⟩ : Steppable mid ∧ pending mid = pending s - e.tick.toNat := by
    have hbegin : Steppable (beginEdge { s with edges := rest }) := { h with }
    obtain ⟨htick, hm⟩ | ⟨htick, rfl⟩ := tickPhase_cases hm
    · rw [htick]
      exact hbegin.execTick_pending hm
    · rw [htick]
      exact ⟨hbegin, rfl⟩
  obtain ⟨hmode', hindex'⟩ := commandPhase_keepsMode hmode ht
  obtain ⟨htarget', hcurrent', hdir'⟩ := commandPhase_keepsPending (hdir ▸ hkeep) ht
  have hframe := commandPhase_frame ht
  rw [hmode', hindex', htarget', hcurrent', hdir'] at hframe
  refine ⟨t, hstep, ?_, hrest, htarget'.trans htarget, hdir'.trans hdir, ?_⟩
  · rw [hframe]
    exact { hmid with }
  · rw [hframe]
    exact hpending

/-- A run of such edges: of its ticks as many are active as step units were pending. -/
theorem run_pending (h : Steppable s) {es rest : List Edge} (he : s.edges = es ++ rest) (hmode : ∀ e ∈ es, KeepsMode e)
    (hkeep : ∀ e ∈ es, KeepsPending s.dir e) :
    activeTickDirections es.length s = List.replicate (min (es.countP (·.tick)) (pending s)) s.dir ∧
    ∃ t, run es.length s = .next t ∧ Steppable t ∧ t.target = s.target ∧
      pending t = pending s - es.countP (·.tick) := by
  induction es generalizing s with
  | nil => exact ⟨by simp, s, rfl, h, rfl, rfl⟩
  | cons e es ih =>
    obtain ⟨hmode, hmodes⟩ := List.forall_mem_cons.1 hmode
    obtain ⟨hkeep, hkeeps⟩ := List.forall_mem_cons.1 hkeep
    obtain ⟨t, hstep, ht, hrest, htarget, hdir, hpending⟩ := h.step_pending he hmode hkeep
    obtain ⟨hdirs, u, hrun, hu, htarget', hpending'⟩ := ih ht hrest hmodes (hdir ▸ hkeeps)
    have hcount : (e :: es).countP (·.tick) = es.countP (·.tick) + e.tick.toNat := by
      cases htick : e.tick <;> simp [htick]
    rw [List.length_cons, run_succ_of_step hstep, hcount]
    refine ⟨?_, u, hrun, hu, htarget'.trans htarget, by omega⟩
    rw [activeTickDirections_succ_of_edge he hmode.1 hstep, hdirs, hdir, hpending]
    cases htick : e.tick with
    | false => simp
    | true =>
      by_cases hact : tickIsActive s
      · have hpos := h.tickIsActive_iff.1 hact
        have hmin : min (es.countP (·.tick) + 1) (pending s) = min (es.countP (·.tick)) (pending s - 1) + 1 := by omega
        simp [hact, hmin, List.replicate_succ]
      · have hzero : pending s = 0 := Nat.eq_zero_of_not_pos (mt h.tickIsActive_iff.2 hact)
        simp [decide_eq_false hact, hzero]

end Steppable

/-- Settles O43: the strides of `L(m)` active ticks add up to whole cycles, and a step unit is pending at each of `L(m)`
ticks. -/
theorem fullCycleReturnsToTheStartIndex : Obligations.FullCycleReturnsToTheStartIndex := by
  intro s es rest ha he hes
  refine ⟨fun d hd => ?_, fun hd => ?_, fun hw hT hC hrun hin hp hticks hkeep => ?_⟩
  · obtain ⟨hin, ⟨t, hrun, hmode, hindex⟩, _⟩ := run_active_ticks ha he hes hd
    exact ⟨t, hrun, hmode, by rw [hindex, advance_iterate_cycleLength d (hin (cycleLength_pos _))]⟩
  · obtain ⟨hin, _, hpatterns⟩ := run_active_ticks ha he hes hd
    rw [hpatterns]
    refine List.map_congr_left fun j _ => ?_
    rw [advance_iterate_toNat .forward (hin (cycleLength_pos _)), stride, Nat.mul_one, Nat.add_assoc]
  · obtain ⟨hdirs, _⟩ := Steppable.run_pending ⟨ha, hw, hT, hC, hrun, hin⟩ he hes hkeep
    rw [hdirs, hticks, Nat.min_eq_left hp]

/-- Settles O44: `k` ticks take `min k pending` step units, and the block runs exactly while some are left. -/
theorem pendingMotionEndsAfterThatManyTicks : Obligations.PendingMotionEndsAfterThatManyTicks := by
  intro k s rest ha hw hT hC hrun hin he
  have htick : ∀ e ∈ List.replicate k tickEdge, e = tickEdge := fun e => List.eq_of_mem_replicate
  obtain ⟨_, t, ht, hsteppable, htarget, hpending⟩ := Steppable.run_pending ⟨ha, hw, hT, hC, hrun, hin⟩ he
    (fun e h => htick e h ▸ ⟨rfl, nofun⟩) (fun e h => htick e h ▸ nofun)
  have hcount : (List.replicate k tickEdge).countP (·.tick) = k := by
    simp [List.countP_replicate, presentInstr, encodeParts]
  rw [List.length_replicate] at ht
  rw [hcount] at hpending
  refine ⟨t, ht, htarget, hsteppable.notHalted, hpending, fun hk => ?_, fun hk => ?_⟩
  · have hmove : t.current ≠ t.target := fun h => by
      have := hsteppable.current_eq_target_iff.1 h
      omega
    simpa [outputs, running] using hmove
  · have hidle := hsteppable.current_eq_target_iff.2 (by omega)
    exact ⟨hidle, (running_eq_false_iff t).2 hidle⟩

end Sys2Proof.Machine
end

section
/-! The motion commands: the effect of each one on the state, an enqueue of a block at rest, and the two edges of a mode
change after an enqueue. -/

namespace Sys2Proof.Machine

/-! ### The accepted command's effect -/

section
variable {arg : Word} (s : State)

theorem exec_setDir_clearBits (h : arg.extractLsb' 1 31 = 0#31) :
    exec (.setDir arg) s = .next (changeDirection (Direction.ofBit (arg.getLsbD 0)) (acceptCommand s)) := by
  rw [← setDirCommand_ofBit h, exec_setDirCommand]

/-- The SET_MODE command of a mode has no reserved bit set, so it executes. -/
theorem exec_setModeCommand (m : Mode) :
    exec (setModeCommand m) s = .next (changeMode m (acceptCommand s)) := by
  cases m <;> rfl

theorem exec_setMode_clearBits (h : arg.extractLsb' 1 31 = 0#31) :
    exec (.setMode arg) s = .next (changeMode (Mode.ofBit (arg.getLsbD 0)) (acceptCommand s)) := by
  rw [← setModeCommand_ofBit h, exec_setModeCommand]

theorem exec_setSpeed_inRange (hlo : 1 ≤ arg.toNat) (hhi : arg.toNat ≤ 2 ^ s.params.periodW - 1) :
    exec (.setSpeed arg) s = .next (commandPeriod arg (acceptCommand s)) := by
  have hlegal : ¬ (arg = 0#32 ∨ 2 ^ s.params.periodW ≤ arg.toNat) := by
    rintro (rfl | hge)
    · exact absurd hlo (by decide)
    · omega
  simp only [exec, execSetSpeed, periodOperand, if_neg hlegal]

end

/-- Settles O22: NOP is the command preamble alone. -/
theorem nopOnlyAnswers : Obligations.NopOnlyAnswers := fun _ _ => ⟨rfl, rfl⟩

/-! ### Enqueues -/

/-- An enqueue of a block at rest leaves it running unless the amount is whole turns of the counter. -/
theorem running_addTarget {s : State} (a : Nat) (hw : s.params.stepW ≤ 32)
    (hT : s.target.toNat < 2 ^ s.params.stepW) (hidle : s.current = s.target) :
    running (addTarget a s) = decide (a % 2 ^ s.params.stepW ≠ 0) := by
  have hturns : (s.target.toNat + a) % 2 ^ s.params.stepW = s.target.toNat ↔ a % 2 ^ s.params.stepW = 0 := by
    rw [← Nat.dvd_iff_mod_eq_zero, ← Nat.add_modEq_left_iff, Nat.ModEq, Nat.mod_eq_of_lt hT]
  have hstill : (addTarget a s).current = (addTarget a s).target ↔ a % 2 ^ s.params.stepW = 0 := by
    rw [← hturns, addTarget_current, addTarget_target, hidle, ← BitVec.toNat_inj, wrap_toNat hw, eq_comm]
  simp only [running, bne, beq_eq_decide, hstill, decide_not, ne_eq]

/-- Settles O23: ENQ_STEPS is `AddTarget` of the count times the mode's multiplier. -/
theorem enqStepsAddsWholeCycles : Obligations.EnqStepsAddsWholeCycles := by
  intro s count hw amount
  have hexec : exec (.enqSteps count) s = .next (addTarget amount (acceptCommand s)) := by
    simp only [amount, ← enqueueMultiplier_eq_ite]
    rfl
  exact ⟨rfl, _, hexec, wrap_toNat hw _, rfl, rfl, running_addTarget amount hw⟩

/-- Settles O24: ENQ_MICRO is `AddTarget` of the count. -/
theorem enqMicroAddsTheCount : Obligations.EnqMicroAddsTheCount := by
  intro s count hw
  exact ⟨rfl, _, rfl, wrap_toNat hw _, rfl, rfl, running_addTarget count.toNat hw⟩

/-! ### The direction, the mode and the period -/

theorem changeDirection_of_eq {d : Direction} {s : State} (h : d = s.dir) : changeDirection d s = s := if_pos h

theorem changeDirection_of_ne {d : Direction} {s : State} (h : d ≠ s.dir) :
    changeDirection d s = { s with dir := d, current := s.target } := if_neg h

/-- Settles O25: the operand check, and then the two cases of the SET_DIR effect. -/
theorem setDirCollapsesPendingMotionOnAChange : Obligations.SetDirCollapsesPendingMotionOnAChange := by
  intro s arg d
  have hexec : arg.extractLsb' 1 31 = 0#31 → exec (.setDir arg) s = .next (changeDirection d (acceptCommand s)) :=
    exec_setDir_clearBits s
  refine ⟨rfl, fun hclear hheld => ?_, fun hclear hother => ⟨_, hexec hclear, ?_⟩, exec_setDir_reservedBits s⟩
  · rw [hexec hclear, changeDirection_of_eq (s := acceptCommand s) hheld]
    rfl
  · rw [changeDirection_of_ne (s := acceptCommand s) hother]
    exact ⟨(running_eq_false_iff _).2 rfl, rfl, rfl⟩

theorem cycleLength_eq_ite (m : Mode) : cycleLength m = if m = .half then 8 else 4 := by
  cases m <;> rfl

theorem clampIndex_of_lt {m : Mode} {i : BitVec 3} (h : i.toNat < cycleLength m) : clampIndex m i = i := by
  apply BitVec.eq_of_toNat_eq
  rw [clampIndex_toNat, Nat.mod_eq_of_lt h]

/-- Settles O26: the operand check, and then the mode with the clamp of the index. -/
theorem setModeClampsTheIndex : Obligations.SetModeClampsTheIndex := by
  intro s arg m
  refine ⟨rfl, fun hclear => ⟨_, exec_setMode_clearBits s hclear, rfl, ?_, rfl, rfl, fun hin => ?_⟩,
    exec_setMode_reservedBits s⟩
  · rw [← cycleLength_eq_ite]
    exact clampIndex_toNat m s.stepIdx
  · rw [← cycleLength_eq_ite] at hin
    exact clampIndex_of_lt hin

/-- Settles O27: SET_SPEED writes what the next tick adopts. -/
theorem setSpeedWritesOnlyTheCommandedPeriod : Obligations.SetSpeedWritesOnlyTheCommandedPeriod := by
  intro s period
  refine ⟨rfl, fun hlo hhi => ?_, exec_setSpeed_outOfRange s⟩
  obtain ⟨u, hu⟩ := execTick_next (commandPeriod period (acceptCommand s))
  refine ⟨_, u, exec_setSpeed_inRange s hlo hhi, rfl, hu, execTick_effPeriod hu, ?_⟩
  rw [execTick_cmpLoad hu, cmpLoad_or_speedChangePending]
  rfl

/-! ### A mode change after an enqueue -/

theorem step_enqSteps {s : State} {count : Word} {rest : List Edge} (ha : s.attached = true)
    (hw : s.params.stepW ≤ 32) (hC : s.current.toNat < 2 ^ s.params.stepW)
    (he : s.edges = presentInstr (.enqSteps count) :: rest) :
    ∃ t, step s = .next t ∧ t.attached = true ∧ t.edges = rest ∧
      pending t = (pending s + count.toNat * enqueueMultiplier s.mode) % 2 ^ s.params.stepW :=
  ⟨_, step_presentInstr ha he, ha, rfl, pending_addTarget _ hw hC⟩

/-- A SET_MODE writes neither counter. -/
theorem step_setModeCommand {s : State} {m : Mode} {rest : List Edge} (ha : s.attached = true)
    (he : s.edges = presentInstr (setModeCommand m) :: rest) :
    ∃ t, step s = .next t ∧ t.mode = m ∧ t.edges = rest ∧ pending t = pending s :=
  ⟨_, (step_presentInstr ha he).trans (exec_setModeCommand _ m), rfl, rfl, rfl⟩

/-- Settles O28: the enqueue raises `pending` from 0 by its amount in the mode of its own edge, and the SET_MODE leaves
it. -/
theorem modeChangeKeepsPendingMotion : Obligations.ModeChangeKeepsPendingMotion := by
  intro s count m rest ha hw hT hidle he
  obtain ⟨mid, hstep, hattached, hrest, hraised⟩ := step_enqSteps ha hw (hidle ▸ hT) he
  obtain ⟨t, hstep', hmode, hedges, hkept⟩ := step_setModeCommand hattached hrest
  refine ⟨t, (run_succ_of_step hstep).trans (run_succ_of_step hstep'), hmode, hedges, ?_⟩
  rw [hkept, hraised, pending_eq_zero hidle, Nat.zero_add, enqueueMultiplier_eq_ite]

end Sys2Proof.Machine
end

section
/-! A reversal stops the motor: the edge of the SET_DIR, the ticks after it, and the second SET_DIR of CANCEL. -/

namespace Sys2Proof.Machine

/-- The motor of `s` stopped short: nothing is pending, the direction is `d`, and no step was taken since `s`. -/
structure Stopped (d : Direction) (s t : State) : Prop where
  idle : t.current = t.target
  dir : t.dir = d
  target : t.target = s.target
  stepIdx : t.stepIdx = s.stepIdx
  coil : t.coil = s.coil
  coilWe : t.coilWe = false

theorem step_reversal {s : State} {rest : List Edge} (ha : s.attached = true)
    (he : s.edges = presentInstr (setDirCommand s.dir.opposite) :: rest) :
    ∃ t, step s = .next t ∧ t.attached = true ∧ t.edges = rest ∧ Stopped s.dir.opposite s t := by
  refine ⟨_, (step_presentInstr ha he).trans (exec_setDirCommand _ _), ?_⟩
  rw [changeDirection_of_ne (by exact opposite_ne s.dir)]
  exact ⟨ha, rfl, rfl, rfl, rfl, rfl, rfl, rfl⟩

/-- No tick writes `target` or `dir` (10_state.md R48). -/
theorem run_ticks_target_dir {k : Nat} {s t : State} {rest : List Edge} (ha : s.attached = true)
    (he : s.edges = List.replicate k tickEdge ++ rest) (hrun : run k s = .next t) :
    t.target = s.target ∧ t.dir = s.dir := by
  induction k generalizing s with
  | zero => cases hrun; exact ⟨rfl, rfl⟩
  | succ k ih =>
    rw [run_succ] at hrun
    obtain ⟨mid, hstep, hrun⟩ := andThen_eq_next.1 hrun
    rw [step_presentInstr ha he] at hstep
    have hframe := execTick_frame hstep
    obtain ⟨htarget, hdir⟩ := ih (by rw [hframe]; exact ha) (by rw [hframe]; rfl) hrun
    rw [htarget, hdir, hframe]
    exact ⟨rfl, rfl⟩

namespace Stopped

variable {d : Direction} {s t : State}

theorem outputs_running (h : Stopped d s t) : (outputs t).running = false := (running_eq_false_iff t).2 h.idle

theorem run_ticks (h : Stopped d s t) {k : Nat} {rest : List Edge} (ha : t.attached = true)
    (he : t.edges = List.replicate k tickEdge ++ rest) : ∃ u, run k t = .next u ∧ Stopped d s u := by
  obtain ⟨u, hrun, hindex, hcoil, hidle, hwe⟩ := run_idle_ticks ha h.idle he
  obtain ⟨htarget, hdir⟩ := run_ticks_target_dir ha he hrun
  exact ⟨u, hrun, hidle, hdir.trans h.dir, htarget.trans h.target, hindex.trans h.stepIdx, hcoil.trans h.coil,
    by rw [hwe, h.coilWe, Bool.and_false]⟩

theorem beginEdge (h : Stopped d s t) (rest : List Edge) : Stopped d s (beginEdge { t with edges := rest }) :=
  { h with coilWe := rfl }

theorem tickPhase (h : Stopped d s t) {e : Edge} {u : State} (hu : tickPhase e t = .next u) : Stopped d s u := by
  obtain ⟨_, hu⟩ | ⟨_, rfl⟩ := tickPhase_cases hu
  · obtain rfl : serviced t = u := Host.Outcome.next.inj ((execTick_idle h.idle).symm.trans hu)
    rw [serviced_eq]
    exact { h with }
  · exact h

theorem changeDirection (h : Stopped d s t) (d' : Direction) : Stopped d' s (changeDirection d' (acceptCommand t)) where
  idle := by simp [h.idle]
  dir := changeDirection_dir _ _
  target := by simp [h.target]
  stepIdx := by simp [h.stepIdx]
  coil := by simp [h.coil]
  coilWe := by simp [h.coilWe]

/-- A SET_DIR of a stopped motor, with or without a tick at its edge: the tick is idle. -/
theorem step_setDir (h : Stopped d s t) {d' : Direction} {e : Edge} {rest : List Edge} (ha : t.attached = true)
    (he : t.edges = e :: rest)
    (hsecond : e = presentInstr (setDirCommand d') ∨ e = withTick (presentInstr (setDirCommand d'))) :
    ∃ u, step t = .next u ∧ Stopped d' s u := by
  obtain ⟨hr, hcommand⟩ : e.rst = false ∧ ∀ u, commandPhase e u = exec (setDirCommand d') u := by
    obtain rfl | rfl := hsecond <;> cases d' <;> exact ⟨rfl, fun _ => rfl⟩
  obtain ⟨mid, u, hm, hu, hstep, _⟩ := step_phases ha he hr
  rw [hcommand, exec_setDirCommand] at hu
  cases hu
  exact ⟨_, hstep, ((h.beginEdge rest).tickPhase hm).changeDirection d'⟩

end Stopped

/-- Settles O30: the reversal stops the motor, and neither a tick nor a further SET_DIR starts it. -/
theorem reversalDiscardsPendingMotion : Obligations.ReversalDiscardsPendingMotion := by
  intro s rest ha
  refine ⟨fun k he => ?_, fun second hsecond he => ?_⟩
  · obtain ⟨mid, hstep, hattached, hrest, hmid⟩ := step_reversal ha he
    obtain ⟨t, hrun, ht⟩ := hmid.run_ticks hattached hrest
    exact ⟨t, (run_succ_of_step hstep).trans hrun, ht.outputs_running, ht.dir, ht.target, ht.stepIdx, ht.coil,
      ht.coilWe⟩
  · obtain ⟨mid, hstep, hattached, hrest, hmid⟩ := step_reversal ha he
    obtain ⟨t, hstep', ht⟩ := hmid.step_setDir hattached hrest hsecond
    exact ⟨t, (run_succ_of_step hstep).trans (run_succ_of_step hstep'), ht.outputs_running, ht.dir, ht.target,
      ht.stepIdx, ht.coil, ht.coilWe⟩

end Sys2Proof.Machine
end

section
/-! The query commands: what each one answers, that it leaves everything but the response, and that a status query agrees
with its output port. -/

namespace Sys2Proof.Machine

/-! ### The answers -/

theorem bitData_running (s : State) : bitData (running s) = if s.current ≠ s.target then 1#32 else 0#32 := by
  simp [bitData, running]

theorem bitData_forward (s : State) : bitData (forward s) = if s.dir = .forward then 1#32 else 0#32 := by
  simp [bitData, forward]

theorem bitData_fullStep (s : State) : bitData (fullStep s) = if s.mode = .full then 1#32 else 0#32 := by
  simp [bitData, fullStep]

/-- Settles O32: a status query responds with its derived bit of 10_state.md R37. -/
theorem statusQueriesAnswerTheirBit : Obligations.StatusQueriesAnswerTheirBit := by
  intro s arg
  rw [← bitData_running, ← bitData_forward, ← bitData_fullStep]
  exact ⟨⟨rfl, rfl⟩, ⟨rfl, rfl⟩, ⟨rfl, rfl⟩⟩

/-- Settles O33: a counter query responds with its register, whose container has the 32 bits of the answer. -/
theorem counterQueriesAnswerTheirRegister : Obligations.CounterQueriesAnswerTheirRegister :=
  fun _ _ => ⟨⟨rfl, rfl⟩, ⟨rfl, rfl⟩, ⟨rfl, rfl⟩⟩

/-- The two sticky bits stand at the low end of the RD_FLAGS answer, under zeros (R187). -/
theorem flagsData_getLsbD (s : State) (k : Nat) :
    (flagsData s).getLsbD k = if k = 0 then s.ovfWarn else if k = 1 then s.halted else false := by
  have hfields : (flagsData s).getLsbD k =
      if k < 2 then (BitVec.ofBool s.halted ++ BitVec.ofBool s.ovfWarn).getLsbD k else (0#30).getLsbD (k - 2) :=
    BitVec.getLsbD_append
  rw [hfields, BitVec.getLsbD_append]
  match k with
  | 0 => simp
  | 1 => simp
  | k + 2 => simp

/-- Settles O34: RD_FLAGS responds with the sticky bits, and a response clears neither. -/
theorem readFlagsAnswersBothStickyBits : Obligations.ReadFlagsAnswersBothStickyBits := by
  intro s arg
  refine ⟨rfl, respond (flagsData s) s, rfl, rfl, flagsData_getLsbD s 0, flagsData_getLsbD s 1, fun k hk => ?_⟩
  rw [respond_rspData, flagsData_getLsbD, if_neg (by omega), if_neg (by omega)]

/-! ### A query is a response alone -/

theorem queryOpcode_cases {op : BitVec 4} (hlo : 0x8#4 ≤ op) (hne : op ≠ 0xF#4) :
    op = 0x8#4 ∨ op = 0x9#4 ∨ op = 0xA#4 ∨ op = 0xB#4 ∨ op = 0xC#4 ∨ op = 0xD#4 ∨ op = 0xE#4 := by
  revert op
  decide

/-- A query responds with a function of the registers, none of which is a response register (R180). -/
theorem exec_query {i : Instr} (hi : i.isQuery = true) :
    ∃ answer : State → Word, (∀ s, exec i s = .next (respond (answer s) s)) ∧
      ∀ data s, answer (respond data s) = answer s := by
  cases i with
  | isRunning | isForward | isFullStep | rdTarget | rdCurrent | rdTicks | rdFlags =>
    exact ⟨_, fun _ => rfl, fun _ _ => rfl⟩
  | nop | enqSteps | enqMicro | setDir | setMode | setSpeed | reservedRpmSpeed | reserved7 | reservedF | tick => cases hi

/-- Settles O35: the query opcodes' arms of the decoder drop the argument, and a query's answer does not depend on the
response it writes. -/
theorem queriesWriteOnlyTheResponse : Obligations.QueriesWriteOnlyTheResponse := by
  refine ⟨fun op arg arg' hlo hne => ?_, fun i s hi => ?_⟩
  · obtain rfl | rfl | rfl | rfl | rfl | rfl | rfl := queryOpcode_cases hlo hne <;> exact ⟨rfl, rfl⟩
  · obtain ⟨answer, hexec, hsame⟩ := exec_query hi
    refine ⟨_, hexec s, rfl, ?_⟩
    rw [hexec, hsame]
    rfl

/-! ### A status query and its output port -/

/-- A status query's answer is also the port's value after it: a response changes no derived bit (R188). -/
theorem exec_statusQuery_output {s t : State} :
    (exec .isRunning s = .next t → t.rspData = bitData (outputs t).running) ∧
    (exec .isForward s = .next t → t.rspData = bitData (outputs t).forward) ∧
    (exec .isFullStep s = .next t → t.rspData = bitData (outputs t).fullStep) := by
  refine ⟨fun h => ?_, fun h => ?_, fun h => ?_⟩ <;> cases h <;> rfl

/-- Settles O19: the command phase is the last of the edge, so the cycle shows the registers the query answered from. -/
theorem statusQueryAgreesWithItsOutputPort : Obligations.StatusQueryAgreesWithItsOutputPort := by
  intro s e rest ha he hr hv
  obtain ⟨mid, t, -, ht, hstep, -⟩ := step_phases ha he hr
  rw [commandPhase, if_pos hv] at ht
  obtain ⟨hrunning, hforward, hfullStep⟩ := exec_statusQuery_output (s := mid) (t := t)
  refine ⟨t, hstep, fun hop => hrunning ?_, fun hop => hforward ?_, fun hop => hfullStep ?_⟩ <;> rwa [hop] at ht

end Sys2Proof.Machine
end

section
/-! The timer ports: what an edge without reset shows on them, the start after a reset edge, and how long a commanded
period waits. -/

namespace Sys2Proof.Machine

/-! ### The period registers over one edge -/

theorem tickPhase_effPeriod {e : Edge} {s t : State} (h : tickPhase e s = .next t) :
    t.effPeriod = if e.tick then s.cmdPeriod else s.effPeriod := by
  obtain ⟨htick, ht⟩ | ⟨htick, rfl⟩ := tickPhase_cases h
  · rw [execTick_effPeriod ht, if_pos htick]
  · simp [htick]

/-- Only a SET_SPEED that executes writes the commanded period. -/
theorem exec_command_cmdPeriod_cases {i : Instr} {s t : State} (hi : i ≠ .tick) (h : exec i s = .next t) :
    t.cmdPeriod = s.cmdPeriod ∨
    ∃ period, i = .setSpeed period ∧ period ≠ 0#32 ∧ period.toNat < 2 ^ s.params.periodW := by
  obtain ⟨_, rfl, _⟩ | ⟨_, rfl⟩ | ⟨_, _, rfl⟩ | ⟨_, _, rfl⟩ | ⟨_, _, _, rfl⟩ | ⟨_, _, _, rfl⟩ |
    ⟨period, hspeed, hpos, hlt, _⟩ | ⟨_, _, rfl⟩ := exec_command_cases hi h
  · exact .inl rfl
  · exact .inl rfl
  · exact .inl rfl
  · exact .inl rfl
  · exact .inl (by simp)
  · exact .inl rfl
  · exact .inr ⟨period, hspeed, hpos, hlt⟩
  · exact .inl rfl

/-- No SET_SPEED that executes stands at the edge of a machine with parameters `p`. -/
abbrev KeepsSpeed (p : Params) (e : Edge) : Prop :=
  e.cmdValid = true → e.cmdOp = 0x5#4 → e.cmdArg = 0#32 ∨ 2 ^ p.periodW ≤ e.cmdArg.toNat

theorem commandPhase_keepsSpeed {e : Edge} {s t : State} (he : KeepsSpeed s.params e)
    (h : commandPhase e s = .next t) : t.cmdPeriod = s.cmdPeriod := by
  obtain ⟨hvalid, hc⟩ | ⟨_, rfl⟩ := commandPhase_cases h
  · obtain hsame | ⟨period, hi, hpos, hlt⟩ := exec_command_cmdPeriod_cases (decode_ne_tick _ _) hc
    · exact hsame
    · obtain ⟨hop, harg⟩ := opcode_operand_of_decode_eq hi rfl
      obtain rfl := harg (by simp [hop]) (by simp [hop])
      obtain hzero | hge := he hvalid hop
      · exact absurd hzero hpos
      · omega
  · rfl

theorem exec_setSpeed_cmdPeriod {period : Word} {s t : State} (hlo : 1 ≤ period.toNat)
    (hhi : period.toNat ≤ 2 ^ s.params.periodW - 1) (h : exec (.setSpeed period) s = .next t) :
    t.cmdPeriod = period := by
  rw [exec_setSpeed_inRange s hlo hhi] at h
  cases h
  rfl

/-- What an edge without reset does to the timer's registers: the tick adopts what was commanded before the edge, and the
edge's command acts on the commanded period alone (70_reset_and_hazards.md R232, R235). -/
structure DrivesTimer (e : Edge) (s t : State) : Prop where
  started : t.started = true
  cmpLoad : t.cmpLoad = (!s.started || (e.tick && speedChangePending s))
  effPeriod : t.effPeriod = if e.tick then s.cmdPeriod else s.effPeriod
  cmdPeriod_of_keeps : KeepsSpeed s.params e → t.cmdPeriod = s.cmdPeriod
  cmdPeriod_of_setSpeed : e.cmdValid = true → e.cmdOp = 0x5#4 → 1 ≤ e.cmdArg.toNat →
    e.cmdArg.toNat ≤ 2 ^ s.params.periodW - 1 → t.cmdPeriod = e.cmdArg

theorem step_drivesTimer {s : State} {e : Edge} {rest : List Edge} (ha : s.attached = true)
    (he : s.edges = e :: rest) (hr : e.rst = false) :
    ∃ t, step s = .next t ∧ t.attached = true ∧ t.params = s.params ∧ t.edges = rest ∧ DrivesTimer e s t := by
  obtain ⟨mid, t, hm, ht, hstep, hattached, hparams, hrest⟩ := step_phases ha he hr
  have hparams' : mid.params = s.params := by rw [tickPhase_frame hm]; rfl
  have hperiod : mid.cmdPeriod = s.cmdPeriod := by rw [tickPhase_frame hm]; rfl
  refine ⟨t, hstep, hattached, hparams, hrest, ?_, ?_, ?_, fun hkeep => ?_, fun hvalid hop hlo hhi => ?_⟩
  · rw [commandPhase_frame ht, tickPhase_frame hm]
    rfl
  · rw [commandPhase_frame ht]
    exact tickPhase_cmpLoad hm
  · calc t.effPeriod = mid.effPeriod := by rw [commandPhase_frame ht]
      _ = _ := tickPhase_effPeriod hm
  · rw [commandPhase_keepsSpeed (hparams' ▸ hkeep) ht, hperiod]
  · rw [commandPhase, if_pos hvalid, hop] at ht
    exact exec_setSpeed_cmdPeriod hlo (hparams' ▸ hhi) ht

/-! ### The start after a reset edge -/

/-- Settles O14: a reset edge leaves both periods at the initial one and the block not started, so the first edge pulses
`cmp_load` with that period; the next finds the block started. -/
theorem firstEdgeAfterResetStartsTheTimer : Obligations.FirstEdgeAfterResetStartsTheTimer := by
  intro p e e' rest hr
  obtain ⟨t, hstep, hattached, _, hrest, ht⟩ :=
    step_drivesTimer (s := { State.resetOf p with edges := e :: e' :: rest }) rfl rfl hr
  refine ⟨t, hstep, ht.started, ht.cmpLoad, ht.effPeriod.trans (ite_self _), fun hr' htick' => ?_⟩
  obtain ⟨u, hstep', _, _, _, hu⟩ := step_drivesTimer hattached hrest hr'
  exact ⟨u, hstep', hu.started, by rw [outputs, hu.cmpLoad, ht.started, htick']; rfl⟩

/-! ### A commanded period waits for a tick -/

/-- Edges without tick, reset or a SET_SPEED that executes leave a started block's two period registers. -/
theorem run_keepsPeriods {s : State} {es rest : List Edge} (ha : s.attached = true) (hs : s.started = true)
    (he : s.edges = es ++ rest) (hes : ∀ e ∈ es, e.rst = false ∧ e.tick = false ∧ KeepsSpeed s.params e) :
    ∃ t, run es.length s = .next t ∧ t.attached = true ∧ t.edges = rest ∧ t.started = true ∧
      t.cmdPeriod = s.cmdPeriod ∧ t.effPeriod = s.effPeriod := by
  induction es generalizing s with
  | nil => exact ⟨s, rfl, ha, he, hs, rfl, rfl⟩
  | cons e es ih =>
    obtain ⟨⟨hr, htick, hkeep⟩, hes⟩ := List.forall_mem_cons.1 hes
    obtain ⟨t, hstep, hattached, hparams, hrest, ht⟩ := step_drivesTimer ha he hr
    have hcommanded : t.cmdPeriod = s.cmdPeriod := ht.cmdPeriod_of_keeps hkeep
    have hinUse : t.effPeriod = s.effPeriod := by rw [ht.effPeriod, htick]; rfl
    rw [List.length_cons, run_succ_of_step hstep, ← hcommanded, ← hinUse]
    exact ih hattached ht.started hrest (hparams ▸ hes)

/-- Settles O31: the SET_SPEED leaves its period in `cmd_period`, where it stays until the tick that adopts it. -/
theorem speedChangeWaitsForTheNextTick : Obligations.SpeedChangeWaitsForTheNextTick := by
  intro s period ownTick between adopting rest ha hlo hhi hbetween hr htick he
  obtain ⟨v, hstep, hattached, hparams, hrest, hv⟩ := step_drivesTimer ha he rfl
  have hcommanded : v.cmdPeriod = period := hv.cmdPeriod_of_setSpeed rfl rfl hlo hhi
  obtain ⟨t, hrun, hattached', hrest', hstarted, hwaiting, hinUse⟩ :=
    run_keepsPeriods hattached hv.started hrest (hparams ▸ hbetween)
  obtain ⟨u, hstep', _, _, _, hu⟩ := step_drivesTimer hattached' hrest' hr
  have hperiod : t.cmdPeriod = period := hwaiting.trans hcommanded
  refine ⟨t, u, (run_succ_of_step hstep).trans hrun, hinUse.trans hv.effPeriod, hstep', ?_, ?_⟩
  · rw [outputs, hu.effPeriod, if_pos htick, hperiod]
  · rw [outputs, hu.cmpLoad, hstarted, htick, speedChangePending, hperiod, outputs, bne_comm]; rfl

end Sys2Proof.Machine
end

section
/-! A command at the edge of a tick: what each command does to the registers the tick left. -/

namespace Sys2Proof.Machine

/-! ### Motion commands after the tick -/

theorem eq_opposite_of_ne {d d' : Direction} : d ≠ d' → d = d'.opposite := by
  cases d <;> cases d' <;> decide

section
variable {s mid t : State} {op : BitVec 4} {arg : Word}

/-- An enqueue at the edge of an idle tick is not stepped by it: neither phase moves the motor. -/
theorem enqueue_after_idle_tick (hidle : s.current = s.target) (hop : op = 0x1#4 ∨ op = 0x2#4)
    (hm : execTick s = .next mid) (ht : exec (decode op arg) mid = .next t) :
    t.current = s.current ∧ t.stepIdx = s.stepIdx ∧ t.coil = s.coil ∧ t.coilWe = s.coilWe := by
  obtain rfl : serviced s = mid := Host.Outcome.next.inj ((execTick_idle hidle).symm.trans hm)
  rw [serviced_eq] at ht
  obtain rfl | rfl := hop <;> cases ht <;> exact ⟨rfl, rfl, rfl, rfl⟩

theorem execTick_active_next (hact : tickIsActive s) (hm : execTick s = .next mid) :
    ∃ pattern, phaseRom s.params s.mode (advance s.stepIdx s.dir s.mode).toNat = some pattern ∧
      mid = emitStep (advance s.stepIdx s.dir s.mode) pattern (serviced s) := by
  obtain ⟨pattern, hp, ht⟩ := execTick_active hact
  exact ⟨pattern, hp, Host.Outcome.next.inj (hm.symm.trans ht)⟩

/-- A reversal at the edge of an active tick: one step in the old direction, and then the collapse. -/
theorem setDir_after_active_tick (hact : tickIsActive s) (hclear : arg.extractLsb' 1 31 = 0#31)
    (hother : Direction.ofBit (arg.getLsbD 0) ≠ s.dir)
    (hm : execTick s = .next mid) (ht : exec (.setDir arg) mid = .next t) :
    t.stepIdx = advance s.stepIdx s.dir s.mode ∧ phaseRom s.params s.mode t.stepIdx.toNat = some t.coil ∧
      t.coilWe = true ∧ t.dir = s.dir.opposite ∧ t.current = s.target ∧ t.target = s.target := by
  obtain ⟨pattern, hp, rfl⟩ := execTick_active_next hact hm
  rw [exec_setDir_clearBits _ hclear, changeDirection_of_ne (by simpa using hother)] at ht
  cases ht
  exact ⟨rfl, hp, rfl, eq_opposite_of_ne hother, by simp, by simp⟩

/-- A SET_MODE at the edge of an active tick: one step in the old mode, and then the clamp of the index it reached. -/
theorem setMode_after_active_tick (hact : tickIsActive s) (hclear : arg.extractLsb' 1 31 = 0#31)
    (hm : execTick s = .next mid) (ht : exec (.setMode arg) mid = .next t) :
    phaseRom s.params s.mode (advance s.stepIdx s.dir s.mode).toNat = some t.coil ∧
      t.mode = Mode.ofBit (arg.getLsbD 0) ∧
      t.stepIdx.toNat = (advance s.stepIdx s.dir s.mode).toNat % cycleLength t.mode := by
  obtain ⟨pattern, hp, rfl⟩ := execTick_active_next hact hm
  rw [exec_setMode_clearBits _ hclear] at ht
  cases ht
  exact ⟨hp, rfl, clampIndex_toNat _ _⟩

/-! ### Queries after the tick -/

/-- A counter query answers the register as it stands after the query. -/
theorem exec_counterQuery_register :
    (exec .rdTarget s = .next t → t.rspData = t.target) ∧
    (exec .rdCurrent s = .next t → t.rspData = t.current) ∧
    (exec .rdTicks s = .next t → t.rspData = t.tickCount) ∧
    (exec .rdFlags s = .next t → t.rspData = flagsData t) := by
  refine ⟨fun h => ?_, fun h => ?_, fun h => ?_, fun h => ?_⟩ <;> cases h <;> rfl

/-- RD_CURRENT at the edge of an active tick counts that tick's step. -/
theorem rdCurrent_after_active_tick (hw : s.params.stepW ≤ 32) (hact : tickIsActive s) (hm : execTick s = .next mid)
    (ht : exec .rdCurrent mid = .next t) : t.rspData.toNat = (s.current.toNat + 1) % 2 ^ s.params.stepW := by
  obtain ⟨pattern, _, rfl⟩ := execTick_active_next hact hm
  cases ht
  simp [wrap_toNat hw]

theorem rdTicks_after_tick (hm : execTick s = .next mid) (ht : exec .rdTicks mid = .next t) :
    t.rspData = wrap s.params.tickW (s.tickCount.toNat + 1) := by
  cases ht
  exact execTick_tickCount hm

end

/-- Settles O45: the tick phase leaves a state, and the command of the same edge runs on that one. -/
theorem sameEdgeCommandActsAfterTheTick : Obligations.SameEdgeCommandActsAfterTheTick := by
  intro s op arg rest ha hw he
  obtain ⟨mid, t, hm, ht, hstep, -⟩ := step_phases ha he rfl
  let start := beginEdge { s with edges := rest }
  have htick : execTick start = .next mid := hm
  obtain ⟨t', hstep', -, -, -, htimer⟩ := step_drivesTimer ha he rfl
  obtain rfl : t = t' := Host.Outcome.next.inj (hstep.symm.trans hstep')
  obtain ⟨hrunning, hforward, hfullStep⟩ := exec_statusQuery_output (s := mid) (t := t)
  obtain ⟨htarget, hcurrent, hticks, hflags⟩ := exec_counterQuery_register (s := mid) (t := t)
  refine ⟨t, hstep, fun hidle hop => enqueue_after_idle_tick (s := start) hidle hop htick ht,
    fun hact hop hclear hother => ?_, fun hact hop hclear => ?_,
    fun hop hlo hhi => ⟨htimer.effPeriod, htimer.cmdPeriod_of_setSpeed rfl hop hlo hhi⟩,
    ?_, ?_, ?_, ?_, ?_, ?_, ?_⟩
  · subst hop
    exact setDir_after_active_tick (s := start) hact hclear hother htick ht
  · subst hop
    exact setMode_after_active_tick (s := start) hact hclear htick ht
  · rintro rfl
    exact (hrunning ht).trans (bitData_running t)
  · rintro rfl
    exact (hforward ht).trans (bitData_forward t)
  · rintro rfl
    exact (hfullStep ht).trans (bitData_fullStep t)
  · rintro rfl
    exact htarget ht
  · rintro rfl
    exact ⟨hcurrent ht, fun hact => rdCurrent_after_active_tick (s := start) hw hact htick ht⟩
  · rintro rfl
    exact ⟨hticks ht, rdTicks_after_tick (s := start) htick ht⟩
  · rintro rfl
    rw [hflags ht, flagsData_getLsbD, flagsData_getLsbD]
    exact ⟨rfl, rfl⟩

end Sys2Proof.Machine
end
